-- ==== Sys2Proof/Word.lean ====
section
/-! DEFINITION. The machine words of the CS12: bytes and two-byte fields of messages (R189), and values of the
32-bit Case Clock (R182). Arithmetic on a Case Clock value is modulo 2^32, as R182 requires. -/

namespace Sys2Proof

/-- One byte of a message, or one character of the supervisor line. -/
abbrev Byte := BitVec 8

/-- A two-byte field of a message, little-endian on the line (R189). -/
abbrev Half := BitVec 16

/-- A value of the Case Clock, in milliseconds, modulo 2^32 (R182). -/
abbrev Clock := BitVec 32

/-- A bay number, 0 to 11 (00_scope.md 6.3). -/
abbrev BayId := Fin 12

end Sys2Proof
end

