-- ==== Sys2Proof/Config.lean ====
section
/-! DEFINITION. What the part fixes (identity codes, fixed intervals, levels of the glitch filter and of the
supply hysteresis) and the one value the manual leaves open, an opaque constant that nothing can evaluate. -/

namespace Sys2Proof.Config

/-- The SYNC byte of every frame (R168). -/
def sync : Byte := 0xA5

/-- Vendor code of the IDENT reply (R186). -/
def vendorCode : Half := 2841

/-- Part code of the IDENT reply (R186). -/
def partCode : Half := 3012

/-- Revision of the IDENT reply (R186). -/
def revision : Byte := 1

/-- Bay count of the IDENT reply (R186). -/
def bayCount : Byte := 12

/-- The identity byte expected of the accelerometer (R89). -/
def sensorIdentity : Byte := 77

/-- Start-up interval after POWER_ON and BROWNOUT, in ms (R183). -/
def supplyStartUpMs : Nat := 250

/-- Start-up interval after a PIN reset, in ms (R183). -/
def pinStartUpMs : Nat := 20

/-- Gap timer, in ms (R170). -/
def gapMs : Nat := 5

/-- Settle timer, in ms (R37). -/
def settleMs : Nat := 3000

/-- Silence timer, in ms (R40). -/
def silenceMs : Nat := 100

/-- Tach quiet interval, in ms (R43). -/
def tachQuietMs : Nat := 500

/-- Unload guard, in ms (R56). -/
def guardMs : Nat := 2

/-- DRDY watch, in ms (R91). -/
def watchMs : Nat := 10

/-- Set-up window, in ms (R89). -/
def windowMs : Nat := 10

/-- Retry timer, in ms (R90). -/
def retryMs : Nat := 100

/-- Glitch filter of TACHn, in µs (R34). -/
def glitchUs : Nat := 100

/-- The largest tach period held, in µs (R35). -/
def periodMax : Nat := 65535

/-- Places of the notice queue (R200). -/
def noticePlaces : Nat := 8

/-- Records of the episode list (R123). -/
def episodePlaces : Nat := 8

/-- Entries of the sample ring (R97). -/
def ringPlaces : Nat := 64

/-- The supply hysteresis, in 10 mV (R155). -/
def supplyHysteresis : Nat := 20

/-- FREE VALUE. The "candidate fits" bit of a POWER_QUERY reply when there is no candidate: R86 calls the bit
"meaningful only with a candidate" and states no value without one. It is applied to the model's counter of
free values, so nothing constrains it. Log entry 8. -/
opaque candidateFitsWithNone : Nat → Bool

end Sys2Proof.Config
end

