-- ==== Sys2Proof/Types.lean ====
section
/-! DEFINITION. The names the manual uses: states, modes, reasons, notice keys, and the records that commands and
messages carry. Each type cites the rule or table that lists its values. -/

namespace Sys2Proof

/-- Bay states, table 1.4 and R190. -/
inductive BayState where
  | vacant | stopped | queued | ramping | settling | spinning | loading | flying | unloading | stopping | faulted
  deriving DecidableEq, Repr

/-- Intents and aim targets (1.3, R190). -/
inductive Intent where
  | off | spin | fly
  deriving DecidableEq, Repr

/-- Descriptor access (1.2, R190). -/
inductive Access where
  | absent | spinOnly | full
  deriving DecidableEq, Repr

/-- Descriptor motion limit: the highest class in which heads may fly (1.2, R190). -/
inductive MotionLimit where
  | still | rolling
  deriving DecidableEq, Repr

/-- The eight fault reasons of a bay (R18). -/
inductive BayReason where
  | spinupTimeout | settleTimeout | speedLost | loadTimeout | stranded | stopTimeout | unexpectedPark | unseated
  deriving DecidableEq, Repr

/-- Sensor states (5.3). -/
inductive SensorState where
  | setup | running | lost
  deriving DecidableEq, Repr

/-- Motion classes (6.1). -/
inductive MotionClass where
  | unprimed | still | rolling | rough
  deriving DecidableEq, Repr

/-- Tilt states (R102). -/
inductive Tilt where
  | level | tilted
  deriving DecidableEq, Repr

/-- Supply states (8.1); `none` only from a full reset to the first sample. -/
inductive SupplyState where
  | none | normal | low | critical
  deriving DecidableEq, Repr

/-- Supply sources (R160). -/
inductive Source where
  | mains | battery
  deriving DecidableEq, Repr

/-- Arbiter modes (R76, R77). -/
inductive ArbMode where
  | fixed | rotate
  deriving DecidableEq, Repr

/-- Case input modes (7.5). -/
inductive InputMode where
  | off | level | edge
  deriving DecidableEq, Repr

/-- The two case inputs (R141). -/
inductive CaseInput where
  | handle | lid
  deriving DecidableEq, Repr

/-- Supervision actions (7.6). -/
inductive SupAction where
  | park | stop
  deriving DecidableEq, Repr

/-- Full resets (R183). -/
inductive FullReset where
  | powerOn | brownout | pin
  deriving DecidableEq, Repr

/-- Last reset cause (R184). -/
inductive ResetCause where
  | powerOn | brownout | pin | restart
  deriving DecidableEq, Repr

/-- Result codes (R180). -/
inductive Result where
  | ok | checkError | lengthError | gapError | unknownKind | badSize | busy | badBay
  deriving DecidableEq, Repr

/-- Per-bay outcomes of BAY_AIM and BAY_CLEAR (R7, R21, R190). -/
inductive BayOutcome where
  | accepted | same | vacant | notSeated | faulted | access
  deriving DecidableEq, Repr

/-- The 22 notice keys (R197). -/
inductive Key where
  | bay (n : BayId)
  | shock | freefall | fault | supply | supervision | sensor | motion | tilt | episode | input
  deriving DecidableEq, Repr

/-- The 4-byte payload of a notice, offsets 0 to 3 (R196). -/
structure NoticePayload where
  b0 : Byte
  b1 : Byte
  b2 : Byte
  b3 : Byte
  deriving DecidableEq, Repr

/-- A captured fault (10.5). Only a bay's capture carries a state found, a tach period and a PRK level. -/
inductive Capture where
  /-- A bay's fault (R19): bay, reason, state found, Case Clock, last tach period, PRK level (true: asserted). -/
  | bay (n : BayId) (reason : BayReason) (found : BayState) (time : Clock) (tach : Nat) (prk : Bool)
  /-- SENSOR_LOST of source SENSOR (R90, R92). -/
  | sensorLost (time : Clock)
  /-- SUPPLY_CRITICAL of source SUPPLY (R159). -/
  | supplyCritical (time : Clock)
  deriving DecidableEq, Repr

/-- A bay descriptor as the 15 bytes of a message carry it, before it is brought into range (R192). -/
structure RawDescriptor where
  access : Byte
  motionLimit : Byte
  peakDraw : Byte
  runDraw : Byte
  speedCode : Half
  pulses : Byte
  tolerance : Byte
  settleCount : Byte
  rampStart : Byte
  rampStep : Byte
  spinupTimeout : Byte
  loadTimeout : Byte
  unloadTimeout : Byte
  stopTimeout : Byte
  deriving DecidableEq, Repr

/-- The MOTION_SETUP record as written (R194). -/
structure RawMotion where
  gravityShift : Byte
  windowExponent : Byte
  shockCode : Byte
  freefallCode : Byte
  freefallCount : Byte
  tiltLimit : Byte
  rollOn : Half
  roughOn : Half
  hysteresis : Byte
  quietBase : Byte
  escalationSpan : Byte
  deriving DecidableEq, Repr

/-- The POWER_SETUP record as written (R193). -/
structure RawPower where
  mode : Byte
  spacing : Byte
  mainsBudget : Byte
  batteryBudget : Byte
  warnIndex : Byte
  cutoffIndex : Byte
  deriving DecidableEq, Repr

/-- The CASE_SETUP record as written (R196). -/
structure RawCase where
  handleMode : Byte
  lidMode : Byte
  period : Byte
  action : Byte
  deriving DecidableEq, Repr

/-- A request of a known kind and of that kind's size (R185), as it waits for dispatch. -/
inductive Request where
  | ident
  | restart
  | baySetup (bay : Byte) (d : RawDescriptor)
  | bayAim (bays : Half) (target priority : Byte)
  | bayClear (bays : Half)
  | bayQuery (bay : Byte)
  | bayDescribe (bay : Byte)
  | motionSetup (r : RawMotion)
  | motionQuery
  | trace (back count stride : Byte)
  | episodes (first count : Byte)
  | powerSetup (r : RawPower)
  | powerQuery
  | caseSetup (r : RawCase)
  | caseQuery
  | noticeMask (mask : Half)
  | noticeFetch
  | noticeStatus
  | faultRead
  deriving DecidableEq, Repr

/-- What a complete, correct frame is by its KIND and size (R174). -/
inductive Judged where
  | request (r : Request)
  | badSize
  | unknownKind
  deriving DecidableEq, Repr

/-- An answer-due item (R174): a request, a request of the wrong size, or a link error with its detail byte. -/
inductive Item where
  | request (r : Request)
  | badSize (kind : Byte)
  | linkError (code : Result) (detail : Byte)
  deriving DecidableEq, Repr

end Sys2Proof
end

