-- ==== Sys2Proof/Syntax.lean ====
section
/-! DEFINITION. The commands of the CS12: one constructor for each row of spec/opcode_table.json, in the table's
order, with the operands that the row's rule gives it. -/

namespace Sys2Proof

/-- One command, that is one step of the part (95_what_each_step_holds.md). -/
inductive Instr where
  /-- IDENT request (R186). -/
  | ident
  /-- RESTART request (R187). -/
  | restart
  /-- BAY_SETUP request (R2): bay number and descriptor as written. -/
  | baySetup (bay : Byte) (d : RawDescriptor)
  /-- BAY_AIM request (R6): bay set, target and priority as written. -/
  | bayAim (bays : Half) (target priority : Byte)
  /-- BAY_CLEAR request (R21): bay set as written. -/
  | bayClear (bays : Half)
  /-- BAY_QUERY request (R27). -/
  | bayQuery (bay : Byte)
  /-- BAY_DESCRIBE request (R4). -/
  | bayDescribe (bay : Byte)
  /-- MOTION_SETUP request (R106). -/
  | motionSetup (r : RawMotion)
  /-- MOTION_QUERY request (R129). -/
  | motionQuery
  /-- TRACE request (R107). -/
  | trace (back count stride : Byte)
  /-- EPISODES request (R126). -/
  | episodes (first count : Byte)
  /-- POWER_SETUP request (R85). -/
  | powerSetup (r : RawPower)
  /-- POWER_QUERY request (R86). -/
  | powerQuery
  /-- CASE_SETUP request (R150). -/
  | caseSetup (r : RawCase)
  /-- CASE_QUERY request (R151). -/
  | caseQuery
  /-- NOTICE_MASK request (R204). -/
  | noticeMask (mask : Half)
  /-- NOTICE_FETCH request (R202). -/
  | noticeFetch
  /-- NOTICE_STATUS request (R203). -/
  | noticeStatus
  /-- FAULT_READ request (R209). -/
  | faultRead
  /-- The reception of one character on RXD (R167): its eight data bits, and the stop bit as sampled. -/
  | characterReception (data : Byte) (stopHigh : Bool)
  /-- The gap timer expires inside a frame (R173). -/
  | gapError
  /-- The stop bit of a reply's CHECK character has been sent (R175). -/
  | endOfReply
  /-- VDD rises from below 1.5 V (R183). -/
  | powerOn
  /-- VDD falls below 2.90 V without going below 1.5 V (R165). -/
  | brownout
  /-- RST# is driven low (R183). -/
  | pinReset
  /-- No reset source holds the part any longer (R183). -/
  | resetRelease
  /-- The start-up interval ends (R183). -/
  | startUpIntervalEnd
  /-- Debounced SEATn becomes released (R23). -/
  | unseat (b : BayId)
  /-- Debounced SEATn becomes asserted (R24). -/
  | reseat (b : BayId)
  /-- Debounced PRKn becomes released (R49). -/
  | prkRelease (b : BayId)
  /-- Debounced PRKn becomes asserted (R49). -/
  | prkAssertion (b : BayId)
  /-- The unload guard passes (R56). -/
  | unloadGuardExpiry (b : BayId)
  /-- A completion test of an unload (R57). -/
  | unloadCompletion (b : BayId)
  /-- A rising edge on TACHn (R34), `us` microseconds into the present millisecond of Case Clock. -/
  | tachEdge (b : BayId) (us : Nat)
  /-- The ramp step timer expires (R32). -/
  | rampStep (b : BayId)
  /-- The spin-up timer expires (R33). -/
  | spinupTimeout (b : BayId)
  /-- The settle timer expires (R38). -/
  | settleTimeout (b : BayId)
  /-- The silence timer expires (R40). -/
  | silenceTimerExpiry (b : BayId)
  /-- The tach quiet interval ends (R43). -/
  | tachQuiet (b : BayId)
  /-- The stop timer expires (R44). -/
  | stopTimeout (b : BayId)
  /-- The load timer expires (R53). -/
  | loadTimeout (b : BayId)
  /-- The unload timer expires (R59). -/
  | unloadTimeout (b : BayId)
  /-- A bay takes a forced-unload order (R137). -/
  | forcedUnloadOrder (b : BayId)
  /-- A bay takes the standing stop order (R139). -/
  | stopOrder (b : BayId)
  /-- A bay takes the lifting of the stop order (R139). -/
  | stopOrderLift (b : BayId)
  /-- A bay takes a change of its load permission (R136). -/
  | loadPermissionReport (b : BayId) (allowed : Bool)
  /-- The arbiter takes a change of the spin gate (R83). -/
  | spinGateReport (opened : Bool)
  /-- The arbiter takes a change of source (R73). -/
  | sourceReport (src : Source)
  /-- The spacing timer expires (R82). -/
  | spacingTimerExpiry
  /-- A rising edge on DRDY (R91). -/
  | drdyEdge
  /-- The identity read completes with a byte (R89). -/
  | identityReadComplete (id : Byte)
  /-- The set-up window expires (R90). -/
  | setupWindowExpiry
  /-- The retry timer expires (R94). -/
  | retryTimerExpiry
  /-- The DRDY watch expires (R92). -/
  | drdyWatchExpiry
  /-- A sample read completes with three received axis values, each 16-bit two's complement (R91, R95). -/
  | sampleArrival (x y z : Half)
  /-- The quiet timer reaches its expiry (R119). -/
  | quietTimerExpiry
  /-- The Motion Unit takes a restart request of the Park Policy (R117). -/
  | quietRestartRequest
  /-- The Motion Unit takes a bay's unload report (R64). -/
  | unloadReport (b : BayId)
  /-- The Motion Unit takes a bay's stranding report (R65). -/
  | strandingReport (b : BayId)
  /-- The Park Policy takes what changed of the class, the tilt state and the quiet timer (R132); true: QUIET. -/
  | motionVerdictHandoff (cls : Option MotionClass) (tilt : Option Tilt) (quiet : Option Bool)
  /-- The Park Policy takes a new supply state (R132). -/
  | supplyStateReport (st : SupplyState)
  /-- A debounced assertion of a case input (R143). -/
  | caseInputAssertion (i : CaseInput)
  /-- A debounced release of a case input (R142). -/
  | caseInputRelease (i : CaseInput)
  /-- The supervision expiry is reached (R148). -/
  | supervisionLapse
  /-- A 1 ms sample of VSENSE, as the rail in 10 mV before saturation, and of SRC (R154). -/
  | supplySample (rail : Int) (srcHigh : Bool)
  /-- The Fault Record takes a capture (R207). -/
  | faultCapture (c : Capture)
  /-- The Notice Queue takes a post: key, Case Clock of the post, payload (R199). -/
  | noticePost (k : Key) (time : Clock) (payload : NoticePayload)
  /-- A PWM period of SPWRn ends (R30). -/
  | pwmPeriodBoundary (b : BayId)
  deriving DecidableEq, Repr

end Sys2Proof
end

