-- ==== Sys2Proof/Decode.lean ====
section
/-! DEFINITION. The bytes of messages: byte order (R189), the frame and its check (R168, R169), the request kinds with
their sizes and layouts (R185, R192 to R196), read from bytes and written to bytes. The opcode table gives its rows
no bits, so `decodeTableWord` reads no command from a word. -/

namespace Sys2Proof

/-- A two-byte field from its bytes, low byte first (R189). -/
def half (lo hi : Byte) : Half := hi ++ lo

/-- The bytes of a two-byte field, low byte first (R189). -/
def le16 (h : Half) : List Byte := [h.extractLsb' 0 8, h.extractLsb' 8 8]

/-- The bytes of a four-byte field, low byte first (R189). -/
def le32 (w : Clock) : List Byte :=
  [w.extractLsb' 0 8, w.extractLsb' 8 8, w.extractLsb' 16 8, w.extractLsb' 24 8]

/-! ## Request records -/

/-- The descriptor's 15 bytes (R192). -/
def RawDescriptor.bytes (d : RawDescriptor) : List Byte :=
  [d.access, d.motionLimit, d.peakDraw, d.runDraw] ++ le16 d.speedCode ++
  [d.pulses, d.tolerance, d.settleCount, d.rampStart, d.rampStep, d.spinupTimeout, d.loadTimeout, d.unloadTimeout,
   d.stopTimeout]

/-- The MOTION_SETUP record's 13 bytes (R194). -/
def RawMotion.bytes (r : RawMotion) : List Byte :=
  [r.gravityShift, r.windowExponent, r.shockCode, r.freefallCode, r.freefallCount, r.tiltLimit] ++
  le16 r.rollOn ++ le16 r.roughOn ++ [r.hysteresis, r.quietBase, r.escalationSpan]

/-- The POWER_SETUP record's 6 bytes (R193). -/
def RawPower.bytes (r : RawPower) : List Byte :=
  [r.mode, r.spacing, r.mainsBudget, r.batteryBudget, r.warnIndex, r.cutoffIndex]

/-- The CASE_SETUP record's 4 bytes (R196). -/
def RawCase.bytes (r : RawCase) : List Byte := [r.handleMode, r.lidMode, r.period, r.action]

/-- The KIND code of a request (R185). -/
def Request.kind : Request → Byte
  | .ident => 0x01
  | .restart => 0x02
  | .baySetup _ _ => 0x10
  | .bayAim _ _ _ => 0x11
  | .bayClear _ => 0x12
  | .bayQuery _ => 0x13
  | .bayDescribe _ => 0x14
  | .motionSetup _ => 0x20
  | .motionQuery => 0x21
  | .trace _ _ _ => 0x22
  | .episodes _ _ => 0x23
  | .powerSetup _ => 0x30
  | .powerQuery => 0x31
  | .caseSetup _ => 0x40
  | .caseQuery => 0x41
  | .noticeMask _ => 0x50
  | .noticeFetch => 0x51
  | .noticeStatus => 0x52
  | .faultRead => 0x60

/-- The payload of a request (R192 to R196). -/
def Request.payload : Request → List Byte
  | .ident | .restart | .motionQuery | .powerQuery | .caseQuery | .noticeFetch | .noticeStatus | .faultRead => []
  | .baySetup bay d => bay :: d.bytes
  | .bayAim bays target priority => le16 bays ++ [target, priority]
  | .bayClear bays => le16 bays
  | .bayQuery bay => [bay]
  | .bayDescribe bay => [bay]
  | .motionSetup r => r.bytes
  | .trace back count stride => [back, count, stride]
  | .episodes first count => [first, count]
  | .powerSetup r => r.bytes
  | .caseSetup r => r.bytes
  | .noticeMask mask => le16 mask

/-- A request without payload of the right size, or BAD_SIZE. -/
def judgeEmpty (r : Request) : List Byte → Judged
  | [] => .request r
  | _ => .badSize

/-- BAY_SETUP's 16 payload bytes (R192). -/
def judgeBaySetup : List Byte → Judged
  | [bay, access, limit, peak, run, code0, code1, ppr, tol, settle, start, step, spinup, load, unload, stop] =>
    .request (.baySetup bay
      { access := access, motionLimit := limit, peakDraw := peak, runDraw := run, speedCode := half code0 code1,
        pulses := ppr, tolerance := tol, settleCount := settle, rampStart := start, rampStep := step,
        spinupTimeout := spinup, loadTimeout := load, unloadTimeout := unload, stopTimeout := stop })
  | _ => .badSize

/-- BAY_AIM's 4 payload bytes (R192). -/
def judgeBayAim : List Byte → Judged
  | [s0, s1, target, priority] => .request (.bayAim (half s0 s1) target priority)
  | _ => .badSize

/-- BAY_CLEAR's 2 payload bytes (R192). -/
def judgeBayClear : List Byte → Judged
  | [s0, s1] => .request (.bayClear (half s0 s1))
  | _ => .badSize

/-- BAY_QUERY's payload byte (R192). -/
def judgeBayQuery : List Byte → Judged
  | [bay] => .request (.bayQuery bay)
  | _ => .badSize

/-- BAY_DESCRIBE's payload byte (R192). -/
def judgeBayDescribe : List Byte → Judged
  | [bay] => .request (.bayDescribe bay)
  | _ => .badSize

/-- MOTION_SETUP's 13 payload bytes (R194). -/
def judgeMotionSetup : List Byte → Judged
  | [k, w, shock, ffcode, ffcount, tilt, roll0, roll1, rough0, rough1, hyst, base, span] =>
    .request (.motionSetup
      { gravityShift := k, windowExponent := w, shockCode := shock, freefallCode := ffcode, freefallCount := ffcount,
        tiltLimit := tilt, rollOn := half roll0 roll1, roughOn := half rough0 rough1, hysteresis := hyst,
        quietBase := base, escalationSpan := span })
  | _ => .badSize

/-- TRACE's 3 payload bytes (R194). -/
def judgeTrace : List Byte → Judged
  | [back, count, stride] => .request (.trace back count stride)
  | _ => .badSize

/-- EPISODES' 2 payload bytes (R194). -/
def judgeEpisodes : List Byte → Judged
  | [first, count] => .request (.episodes first count)
  | _ => .badSize

/-- POWER_SETUP's 6 payload bytes (R193). -/
def judgePowerSetup : List Byte → Judged
  | [mode, spacing, mains, battery, warn, cutoff] =>
    .request (.powerSetup
      { mode := mode, spacing := spacing, mainsBudget := mains, batteryBudget := battery, warnIndex := warn,
        cutoffIndex := cutoff })
  | _ => .badSize

/-- CASE_SETUP's 4 payload bytes (R196). -/
def judgeCaseSetup : List Byte → Judged
  | [handle, lid, period, action] =>
    .request (.caseSetup { handleMode := handle, lidMode := lid, period := period, action := action })
  | _ => .badSize

/-- NOTICE_MASK's 2 payload bytes (R196). -/
def judgeNoticeMask : List Byte → Judged
  | [m0, m1] => .request (.noticeMask (half m0 m1))
  | _ => .badSize

/-- A complete frame judged by its KIND and its size (R174, R185). -/
def judge (kind : Byte) (payload : List Byte) : Judged :=
  match kind.toNat with
  | 0x01 => judgeEmpty .ident payload
  | 0x02 => judgeEmpty .restart payload
  | 0x10 => judgeBaySetup payload
  | 0x11 => judgeBayAim payload
  | 0x12 => judgeBayClear payload
  | 0x13 => judgeBayQuery payload
  | 0x14 => judgeBayDescribe payload
  | 0x20 => judgeMotionSetup payload
  | 0x21 => judgeEmpty .motionQuery payload
  | 0x22 => judgeTrace payload
  | 0x23 => judgeEpisodes payload
  | 0x30 => judgePowerSetup payload
  | 0x31 => judgeEmpty .powerQuery payload
  | 0x40 => judgeCaseSetup payload
  | 0x41 => judgeEmpty .caseQuery payload
  | 0x50 => judgeNoticeMask payload
  | 0x51 => judgeEmpty .noticeFetch payload
  | 0x52 => judgeEmpty .noticeStatus payload
  | 0x60 => judgeEmpty .faultRead payload
  | _ => .unknownKind

/-! ## Frames -/

/-- The sum of bytes modulo 256 (R169). -/
def byteSum : List Byte → Byte
  | [] => 0
  | b :: bs => b + byteSum bs

/-- The frame around LEN, KIND and payload bytes `body` (KIND first): SYNC, LEN, the bytes, CHECK (R168, R169). -/
def frame (body : List Byte) : List Byte :=
  let len := BitVec.ofNat 8 body.length
  [Config.sync, len] ++ body ++ [-(len + byteSum body)]

/-- The frame in which a supervisor sends a request (R168, R185). -/
def Request.frame (r : Request) : List Byte := Sys2Proof.frame (r.kind :: r.payload)

/-- A byte from the number that its bits make. -/
def packed (n : Nat) : Byte := BitVec.ofNat 8 n

/-- A set of bays as a 16-bit field: bit b names bay b (R190). -/
def baySet (f : BayId → Bool) : Half :=
  BitVec.ofNat 16
    ((f 0).toNat + (f 1).toNat * 2 + (f 2).toNat * 4 + (f 3).toNat * 8 + (f 4).toNat * 16 + (f 5).toNat * 32 +
      (f 6).toNat * 64 + (f 7).toNat * 128 + (f 8).toNat * 256 + (f 9).toNat * 512 + (f 10).toNat * 1024 +
      (f 11).toNat * 2048)

/-- The command that a word spells by the opcode table's bits: none, because the table gives its rows no bits.
Log entry 21. -/
def decodeTableWord (_nbits _w : Nat) : Option Instr := none

end Sys2Proof
end

