-- ==== Sys2Proof/Machine/State.lean ====
section
/-! DEFINITION. The state of the part: every piece of state that the manual gives each of its blocks, the levels of
its input pins, the reports between its blocks that have been made and not yet taken, and the queue of commands
that wait. Plain data. `State.reset` is the part at the release of a POWER_ON reset. -/

namespace Sys2Proof.Machine

/-- Reasons a command can stop the machine. No command of this part stops it: the manual gives every command an
effect, so the type has no constructor. -/
inductive Fault where
  deriving DecidableEq, Repr

/-- Reasons a command can be without a meaning. -/
inductive Refusal where
  /-- Raised by an arm of `exec` whose command has no meaning yet (none now); safe: the run stops. -/
  | notModelled (mnemonic : String)
  deriving DecidableEq, Repr

/-! ## Timers -/

/-- A millisecond timer of the part: idle, or running to a Case Clock value (2.1, R182). -/
inductive Timer where
  | idle
  | running (expiry : Clock)
  deriving DecidableEq, Repr

/-- The unload guard (3.1). -/
inductive Guard where
  | idle
  | running (expiry : Clock)
  | passed
  deriving DecidableEq, Repr

/-- The quiet timer of the Motion Unit (6.1): QUIET, RUNNING with its expiry unset, RUNNING with an expiry. -/
inductive QuietTimer where
  | quiet
  | runningUnset
  | running (expiry : Clock)
  deriving DecidableEq, Repr

/-- The moment of a TACHn edge, to 1 µs (2.1): the Case Clock and the microsecond within it.
Log entry 2. -/
structure EdgeTime where
  ms : Clock
  us : Nat
  deriving DecidableEq, Repr

/-! ## Bays -/

/-- The bay descriptor as stored, every field in range (1.2, R1). -/
structure Descriptor where
  access : Access
  motionLimit : MotionLimit
  peakDraw : Nat
  runDraw : Nat
  speedCode : Nat
  pulses : Nat
  tolerance : Nat
  settleCount : Nat
  rampStart : Nat
  rampStep : Nat
  spinupTimeout : Nat
  loadTimeout : Nat
  unloadTimeout : Nat
  stopTimeout : Nat
  deriving DecidableEq, Repr

/-- The default descriptor (1.2). -/
def Descriptor.default : Descriptor where
  access := .absent
  motionLimit := .still
  peakDraw := 40
  runDraw := 14
  speedCode := 720
  pulses := 2
  tolerance := 8
  settleCount := 16
  rampStart := 16
  rampStep := 20
  spinupTimeout := 15
  loadTimeout := 50
  unloadTimeout := 30
  stopTimeout := 30

/-- A fault mark: the reason and the state in which it was found (R17). -/
structure Mark where
  reason : BayReason
  found : BayState
  deriving DecidableEq, Repr

/-- One bay: the bay record (1.1), the spindle side (2.1) and the head side (3.1). -/
structure Bay where
  desc : Descriptor
  intent : Intent
  state : BayState
  priority : Fin 4
  mark : Option Mark
  stopMark : Bool
  /-- The fault reason, held in FAULTED. -/
  reason : Option BayReason
  touched : Bool
  seated : Bool
  /-- Consecutive SEATn samples that differ from `seated` (R22). -/
  seatCount : Nat
  entryTime : Clock
  /-- The programmed duty (R30). -/
  duty : Nat
  /-- The duty that SPWRn carries in the present PWM period (R30). -/
  spwr : Nat
  lastTach : Nat
  inBand : Nat
  /-- The load permission as last reported (R136). -/
  loadPermission : Bool
  /-- The stop order as last reported: standing (R139). -/
  stopHeld : Bool
  /-- The target period P_t (R36). -/
  target : Nat
  /-- The band half-width h (R36). -/
  half : Nat
  /-- The fault band half-width h_f (R36). -/
  faultHalf : Nat
  edgeRef : Option EdgeTime
  offBand : Nat
  /-- The speed watch is armed (R39). -/
  watchArmed : Bool
  rampTimer : Timer
  spinupTimer : Timer
  settleTimer : Timer
  silenceTimer : Timer
  quietTimer : Timer
  stopTimer : Timer
  /-- HLDn is raised. -/
  hld : Bool
  /-- The latest 1 ms sample of PRKn: asserted (R48). -/
  prkSample : Bool
  prkAgree : Nat
  /-- The debounced PRKn: asserted (R48). -/
  prkLevel : Bool
  loadTimer : Timer
  unloadTimer : Timer
  guard : Guard
  deriving DecidableEq, Repr

/-- A bay after a full reset (R28, R47, R67). -/
def Bay.reset : Bay where
  desc := .default
  intent := .off
  state := .vacant
  priority := 0
  mark := none
  stopMark := false
  reason := none
  touched := false
  seated := false
  seatCount := 0
  entryTime := 0
  duty := 0
  spwr := 0
  lastTach := 0
  inBand := 0
  loadPermission := false
  stopHeld := false
  target := 4167
  half := 130
  faultHalf := 260
  edgeRef := none
  offBand := 0
  watchArmed := true
  rampTimer := .idle
  spinupTimer := .idle
  settleTimer := .idle
  silenceTimer := .idle
  quietTimer := .idle
  stopTimer := .idle
  hld := false
  prkSample := true
  prkAgree := 0
  prkLevel := true
  loadTimer := .idle
  unloadTimer := .idle
  guard := .idle

/-! ## Spin Arbiter -/

/-- The Spin Arbiter (4.1). The committed draw C is the sum of `charges`; the budget in force B is the budget of
`source` (R71, R73). -/
structure Arbiter where
  /-- The spin queue in join order; an entry's priority is its bay's (R68). -/
  queue : List BayId
  charges : Vector Nat 12
  mode : ArbMode
  /-- Spacing, in 10 ms. -/
  spacing : Nat
  mainsBudget : Nat
  batteryBudget : Nat
  /-- The source as last reported (R73). -/
  source : Source
  pointers : Vector BayId 4
  spacingTimer : Timer
  /-- The spin gate as last reported: open (R83). -/
  gateOpen : Bool
  deriving DecidableEq, Repr

/-- The arbiter after a full reset (R87). -/
def Arbiter.reset : Arbiter where
  queue := []
  charges := .replicate 12 0
  mode := .fixed
  spacing := 50
  mainsBudget := 160
  batteryBudget := 80
  source := .battery
  pointers := .replicate 4 0
  spacingTimer := .idle
  gateOpen := false

/-! ## Motion Unit -/

/-- What the accelerometer port is doing (R88): nothing, the set-up and identity transfers, or a sample read. -/
inductive Port where
  | idle | settingUp | reading
  deriving DecidableEq, Repr

/-- One entry of the sample ring (R97). -/
structure Sample where
  number : Half
  x : Int
  y : Int
  z : Int
  activity : Nat
  deriving DecidableEq, Repr

/-- One record of the episode list (6.4). -/
structure Episode where
  sequence : Half
  start : Clock
  shock : Bool
  freefall : Bool
  peak : Nat
  /-- Absent while the episode is open. -/
  duration : Option Clock
  unloaded : Nat
  stranded : Nat
  deriving DecidableEq, Repr

/-- The settings that MOTION_SETUP writes, as stored (5.7, 6.6). -/
structure MotionSettings where
  gravityShift : Nat
  windowExponent : Nat
  shockCode : Nat
  freefallCode : Nat
  freefallCount : Nat
  tiltLimit : Nat
  rollOn : Nat
  roughOn : Nat
  hysteresis : Nat
  quietBase : Nat
  escalationSpan : Nat
  deriving DecidableEq, Repr

/-- The default settings (5.7, 6.6). -/
def MotionSettings.default : MotionSettings where
  gravityShift := 7
  windowExponent := 5
  shockCode := 24
  freefallCode := 5
  freefallCount := 16
  tiltLimit := 192
  rollOn := 48
  roughOn := 160
  hysteresis := 12
  quietBase := 15
  escalationSpan := 60

/-- The Motion Unit (5.1, 6.1). -/
structure Motion where
  sensor : SensorState
  port : Port
  watch : Timer
  window : Timer
  retry : Timer
  firstSetup : Bool
  /-- Case Clock of the present or last SETUP entry, from which a failure's retry is measured (R90).
  Log entry 22. -/
  setupEntry : Clock
  /-- The gravity estimate G, in 1/256 count. -/
  gx : Int
  gy : Int
  gz : Int
  /-- The sample ring, newest first; the filled count is its length (R97). -/
  ring : List Sample
  sampleCounter : Half
  runLength : Nat
  /-- The window sum S (R98). -/
  sum : Nat
  /-- The level L as last computed (R98). Log entry 9. -/
  level : Nat
  priming : Nat
  primed : Bool
  freefallRun : Nat
  freefallReported : Bool
  tilt : Tilt
  cls : MotionClass
  quiet : QuietTimer
  multiplier : Nat
  /-- The episode list, newest first. -/
  episodes : List Episode
  sequence : Half
  settings : MotionSettings
  deriving DecidableEq, Repr

/-- The Motion Unit after a full reset (R108, R130). -/
def Motion.reset : Motion where
  sensor := .setup
  port := .idle
  watch := .idle
  window := .idle
  retry := .idle
  firstSetup := true
  setupEntry := 0
  gx := 0
  gy := 0
  gz := 0
  ring := []
  sampleCounter := 0
  runLength := 0
  sum := 0
  level := 0
  priming := 0
  primed := false
  freefallRun := 0
  freefallReported := false
  tilt := .level
  cls := .unprimed
  quiet := .runningUnset
  multiplier := 1
  episodes := []
  sequence := 0
  settings := .default

/-! ## Park Policy -/

/-- Supervision state with, in ACTIVE, its expiry (7.6). -/
inductive Supervision where
  | off
  | active (expiry : Clock)
  | lapsed
  deriving DecidableEq, Repr

/-- The bay table's entry for one bay (7.1). -/
structure TableEntry where
  access : Access
  motionLimit : MotionLimit
  deriving DecidableEq, Repr

/-- The Park Policy (7.1). -/
structure Policy where
  classSeen : MotionClass
  tiltSeen : Tilt
  /-- The quiet seen: true for QUIET. -/
  quietSeen : Bool
  supplySeen : SupplyState
  handleMode : InputMode
  lidMode : InputMode
  /-- Debounced HANDLE#: asserted. -/
  handleState : Bool
  /-- Debounced LID#: asserted. -/
  lidState : Bool
  handleCount : Nat
  lidCount : Nat
  /-- Supervision period, in 100 ms; 0 is OFF. -/
  period : Nat
  action : SupAction
  supervision : Supervision
  table : Vector TableEntry 12
  loadPermission : Vector Bool 12
  flightPermission : Vector Bool 12
  /-- The spin gate as last computed: open. -/
  gateOpen : Bool
  /-- The stop order as last computed: standing. -/
  stopStanding : Bool
  deriving DecidableEq, Repr

/-- The Park Policy after a full reset (R152). -/
def Policy.reset : Policy where
  classSeen := .unprimed
  tiltSeen := .level
  quietSeen := false
  supplySeen := .low
  handleMode := .off
  lidMode := .off
  handleState := false
  lidState := false
  handleCount := 0
  lidCount := 0
  period := 0
  action := .park
  supervision := .off
  table := .replicate 12 { access := .absent, motionLimit := .still }
  loadPermission := .replicate 12 false
  flightPermission := .replicate 12 false
  gateOpen := false
  stopStanding := false

/-! ## Supply Monitor -/

/-- The Supply Monitor (8.1). -/
structure Supply where
  /-- The last reading, in 10 mV. -/
  reading : Nat
  warnIndex : Nat
  cutoffIndex : Nat
  warnDwell : Nat
  cutoffDwell : Nat
  state : SupplyState
  entryTime : Clock
  source : Source
  agree : Nat
  deriving DecidableEq, Repr

/-- The Supply Monitor after a full reset (R163). -/
def Supply.reset : Supply where
  reading := 0
  warnIndex := 8
  cutoffIndex := 10
  warnDwell := 0
  cutoffDwell := 0
  state := .none
  entryTime := 0
  source := .battery
  agree := 0

/-! ## Link Port -/

/-- The receiver with its frame buffer (9.1, 9.3). In BODY it holds LEN, the bytes of KIND and payload received so
far, first byte first, and the running sum. -/
inductive Receiver where
  | hunt
  | length
  | body (len : Byte) (got : List Byte) (sum : Byte)
  deriving DecidableEq, Repr

/-- The transmitter (9.1): idle, or sending a reply's frame; `restart` marks the reply to a RESTART (R187). -/
inductive Transmitter where
  | idle
  | sending (frame : List Byte) (restart : Bool)
  deriving DecidableEq, Repr

/-- The Link Port (9.1). -/
structure Link where
  rx : Receiver
  gap : Timer
  /-- After a framing error the receiver waits for RXD to be high (R167). Log entries 22, 30. -/
  awaitHigh : Bool
  tx : Transmitter
  held : Option Item
  overrun : Bool
  lapseSeen : Bool
  deriving DecidableEq, Repr

/-- The Link Port after a full reset (R188). -/
def Link.reset : Link where
  rx := .hunt
  gap := .idle
  awaitHigh := false
  tx := .idle
  held := none
  overrun := false
  lapseSeen := false

/-! ## Notice Queue and Fault Record -/

/-- An entry of the notice queue, or a pending record (10.1, R198). The urgency is its key's. -/
structure Notice where
  key : Key
  count : Nat
  time : Clock
  payload : NoticePayload
  deriving DecidableEq, Repr

/-- The Notice Queue (10.1). A key is queued when `queue` holds it, pending when `pending` holds it, and clear
otherwise (R198). `pending` stands in ascending key number. -/
structure Notices where
  queue : List Notice
  pending : List Notice
  /-- One bit per kind; a set bit masks the kind (R204). -/
  mask : BitVec 11
  deriving DecidableEq, Repr

/-- The Notice Queue after a full reset (R206). -/
def Notices.reset : Notices where
  queue := []
  pending := []
  mask := 0

/-- The Fault Record (10.5). Frozen is that a record is held. -/
structure FaultRecord where
  record : Option Capture
  more : Bool
  deriving DecidableEq, Repr

/-- The Fault Record after a full reset (R210). -/
def FaultRecord.reset : FaultRecord where
  record := none
  more := false

/-! ## Reset Control and the outside -/

/-- Reset Control's place in a full reset (R183): held in reset, in the start-up interval, or past it. -/
inductive Phase where
  | held (kind : FullReset)
  | startUp (kind : FullReset) (ends : Clock)
  | operating
  deriving DecidableEq, Repr

/-- The levels of the sampled input pins, as the outside drives them: SEATn and PRKn asserted, HANDLE# and LID#
asserted (low), the 12 V rail in 10 mV, SRC high; and RXD high, as it stands before the next character's start bit
(log entry 30). A reset does not change them. -/
structure Inputs where
  seat : Vector Bool 12
  prk : Vector Bool 12
  handle : Bool
  lid : Bool
  rail : Int
  srcHigh : Bool
  rxdHigh : Bool
  deriving DecidableEq, Repr

/-- DESIGN CHOICE: the levels the model takes the outside to drive at first. Log entry 11. -/
def Inputs.atReset : Inputs where
  seat := .replicate 12 false
  prk := .replicate 12 true
  handle := false
  lid := false
  rail := 1200
  srcHigh := false
  rxdHigh := true

/-! ## The whole part -/

/-- The part, what stands at its input pins, and the commands that wait. -/
structure State where
  /-- The Case Clock (R182). -/
  clock : Clock
  phase : Phase
  /-- The last reset cause (R184). -/
  cause : ResetCause
  bays : Vector Bay 12
  arbiter : Arbiter
  motion : Motion
  policy : Policy
  supply : Supply
  link : Link
  notices : Notices
  faults : FaultRecord
  inputs : Inputs
  /-- The model's own: how many free values have been drawn. Log entry 8. -/
  drawn : Nat
  /-- The model's own: events handed on inside the part and not yet taken, oldest first. Log entry 4. -/
  inFlight : List Instr
  /-- The commands that wait, first in, first out. -/
  pending : List Instr
  deriving DecidableEq, Repr

/-- Every block at its full-reset values (R28, R47, R67, R87, R108, R130, R152, R163, R188, R206, R210), the Case
Clock at 0, nothing in flight. -/
def State.fullReset (phase : Phase) (cause : ResetCause) (inputs : Inputs) (drawn : Nat) (pending : List Instr) :
    State where
  clock := 0
  phase := phase
  cause := cause
  bays := .replicate 12 .reset
  arbiter := .reset
  motion := .reset
  policy := .reset
  supply := .reset
  link := .reset
  notices := .reset
  faults := .reset
  inputs := inputs
  drawn := drawn
  inFlight := []
  pending := pending

/-- The part at the release of a POWER_ON reset: Case Clock 0, the 250 ms start-up interval begun, the cause
recorded (R182, R183, R184). Log entry 10. -/
def State.reset : State :=
  State.fullReset (.startUp .powerOn (BitVec.ofNat 32 Config.supplyStartUpMs)) .powerOn .atReset 0 []

end Sys2Proof.Machine
end

