-- ==== Sys2Proof/Machine/Ops.lean ====
section
/-! DEFINITION. The named operations over State that every meaning is built from: timers, bays and other per-bay
tables, handing on and taking events inside the part, posting notices, output pins. -/

namespace Sys2Proof.Machine

/-! ## Timers -/

/-- The Case Clock value `ms` milliseconds from `now`, modulo 2^32 (R182). -/
def later (now : Clock) (ms : Nat) : Clock := now + BitVec.ofNat 32 ms

/-- The milliseconds from `t` to `now`, modulo 2^32 (R182). -/
def since (now t : Clock) : Nat := (now - t).toNat

/-- A Case Clock value has been reached: it lies less than 2^31 ms back. Log entry 3. -/
def reached (now expiry : Clock) : Bool := decide (since now expiry < 2147483648)

/-- A timer started for `ms` milliseconds. -/
def Timer.after (now : Clock) (ms : Nat) : Timer := .running (later now ms)

/-- A timer runs and its expiry has been reached. -/
def Timer.due (now : Clock) : Timer → Bool
  | .idle => false
  | .running e => reached now e

/-- The guard has passed, or runs and its 2 ms are over (R57). -/
def Guard.over (now : Clock) : Guard → Bool
  | .idle => false
  | .running e => reached now e
  | .passed => true

/-- Milliseconds left to an expiry, 0 when it has been reached. -/
def remaining (now expiry : Clock) : Nat := if reached now expiry then 0 else (expiry - now).toNat

/-! ## Per-bay tables -/

/-- The bays in ascending order. -/
def bayIds : List BayId := [0, 1, 2, 3, 4, 5, 6, 7, 8, 9, 10, 11]

/-- The entry of bay `b` in a table of twelve. -/
def atBay {α : Type} (v : Vector α 12) (b : BayId) : α := v[b.val]'b.isLt

/-- A table of twelve with the entry of bay `b` replaced. -/
def putBay {α : Type} (v : Vector α 12) (b : BayId) (x : α) : Vector α 12 := v.set b.val x b.isLt

/-- Bay `b`. -/
def State.bay (s : State) (b : BayId) : Bay := atBay s.bays b

/-- Replace bay `b`. -/
def State.setBay (s : State) (b : BayId) (x : Bay) : State := { s with bays := putBay s.bays b x }

/-- Change bay `b`. -/
def State.mapBay (s : State) (b : BayId) (f : Bay → Bay) : State := s.setBay b (f (s.bay b))

/-! ## Replacing a block -/

/-- Replace the Spin Arbiter. -/
def State.setArbiter (s : State) (x : Arbiter) : State := { s with arbiter := x }
/-- Replace the Motion Unit. -/
def State.setMotion (s : State) (x : Motion) : State := { s with motion := x }
/-- Replace the Park Policy. -/
def State.setPolicy (s : State) (x : Policy) : State := { s with policy := x }
/-- Replace the Supply Monitor. -/
def State.setSupply (s : State) (x : Supply) : State := { s with supply := x }
/-- Replace the Link Port. -/
def State.setLink (s : State) (x : Link) : State := { s with link := x }
/-- Replace the Notice Queue. -/
def State.setNotices (s : State) (x : Notices) : State := { s with notices := x }
/-- Replace the Fault Record. -/
def State.setFaults (s : State) (x : FaultRecord) : State := { s with faults := x }
/-- Replace Reset Control's phase. -/
def State.setPhase (s : State) (x : Phase) : State := { s with phase := x }
/-- Replace the last reset cause. -/
def State.setCause (s : State) (x : ResetCause) : State := { s with cause := x }
/-- Replace the Case Clock. -/
def State.setClock (s : State) (x : Clock) : State := { s with clock := x }
/-- Count one more free value as drawn. -/
def State.drawFree (s : State) : State := { s with drawn := s.drawn + 1 }

/-! ## Events inside the part -/

/-- Hand events on to the blocks that take them, in order. Log entry 4. -/
def State.handOn (s : State) (events : List Instr) : State := { s with inFlight := s.inFlight ++ events }

/-- An event is being taken: its first report in flight, if there is one, is used up. Log entry 4. -/
def State.taken (s : State) (c : Instr) : State := { s with inFlight := s.inFlight.erase c }

/-- Past the start-up interval: inputs are sampled, the link is heard, blocks act (R183). -/
def State.operating (s : State) : Bool := decide (s.phase = .operating)

/-- A command of a block: it is taken, and has its effect unless the part is in reset or in a start-up interval,
where every block holds its full-reset values (R183). Log entry 13. -/
def State.event (s : State) (c : Instr) (effect : State → State) : Host.Outcome State Fault Refusal :=
  .next (if s.operating then effect (s.taken c) else s.taken c)

/-- Post a notice with the present Case Clock (R197). The Notice Queue takes the post as an event of its own.
Log entry 7. -/
def State.post (s : State) (k : Key) (p : NoticePayload) : State := s.handOn [.noticePost k s.clock p]

/-- A notice payload from a field of two bytes and another. -/
def payloadOf (lo hi : Half) : NoticePayload :=
  { b0 := lo.extractLsb' 0 8, b1 := lo.extractLsb' 8 8, b2 := hi.extractLsb' 0 8, b3 := hi.extractLsb' 8 8 }

/-! ## Outputs computed from the state that fixes them -/

/-- ATTN# is driven low while the queue holds an entry (R205). -/
def State.attnLow (s : State) : Bool := !s.notices.queue.isEmpty

/-- The part of a PWM period of SPWRn, in 64ths, for which the pin is high (R30). -/
def State.spwrHigh (s : State) (b : BayId) : Nat := (s.bay b).spwr

/-- The fault record holds an unread fault (10.5). -/
def FaultRecord.frozen (f : FaultRecord) : Bool := f.record.isSome

end Sys2Proof.Machine
end

