-- ==== Sys2Proof/Machine/Operands.lean ====
section
/-! DEFINITION. Operands of requests: the codes of messages (R190), and bringing each written field into range
(R1, R6, R85, R106, R107, R126, R127, R150, R161). A stored record written back to bytes that differs from the
record as written is what sets CLAMPED (00_scope.md 6.4). -/

namespace Sys2Proof

/-- Code of a bay's fault reason. -/
def BayReason.code : BayReason → Byte
  | .spinupTimeout => 1
  | .settleTimeout => 2
  | .speedLost => 3
  | .loadTimeout => 4
  | .stranded => 5
  | .stopTimeout => 6
  | .unexpectedPark => 7
  | .unseated => 8

/-- Reason code of a capture. -/
def Capture.reasonCode : Capture → Byte
  | .bay _ r _ _ _ _ => r.code
  | .sensorLost _ => 9
  | .supplyCritical _ => 10

/-- Source code of a capture. -/
def Capture.sourceCode : Capture → Byte
  | .bay n _ _ _ _ _ => BitVec.ofNat 8 n.val
  | .sensorLost _ => 12
  | .supplyCritical _ => 13

/-- True for MAINS. -/
def Source.isMains : Source → Bool
  | .mains => true
  | .battery => false

/-- True for TILTED. -/
def Tilt.isTilted : Tilt → Bool
  | .level => false
  | .tilted => true

end Sys2Proof

namespace Sys2Proof.Machine

/-! ## Codes (R190) -/

/-- Code of a bay state. -/
def stateCode : BayState → Byte
  | .vacant => 0
  | .stopped => 1
  | .queued => 2
  | .ramping => 3
  | .settling => 4
  | .spinning => 5
  | .loading => 6
  | .flying => 7
  | .unloading => 8
  | .stopping => 9
  | .faulted => 10

/-- Code of an intent. -/
def intentCode : Intent → Byte
  | .off => 0
  | .spin => 1
  | .fly => 2

/-- Code of an access. -/
def accessCode : Access → Byte
  | .absent => 0
  | .spinOnly => 1
  | .full => 2

/-- Code of a motion limit. -/
def limitCode : MotionLimit → Byte
  | .still => 0
  | .rolling => 1

/-- Code of a per-bay outcome. -/
def outcomeCode : BayOutcome → Byte
  | .accepted => 0
  | .same => 1
  | .vacant => 2
  | .notSeated => 3
  | .faulted => 4
  | .access => 5

/-- Code of a bay's fault reason, 0 for none. -/
def reasonCode? : Option BayReason → Byte
  | none => 0
  | some r => r.code

/-- Code of a sensor state. -/
def sensorCode : SensorState → Nat
  | .setup => 0
  | .running => 1
  | .lost => 2

/-- Code of a motion class. -/
def classCode : MotionClass → Nat
  | .unprimed => 0
  | .still => 1
  | .rolling => 2
  | .rough => 3

/-- Code of a supply state. -/
def supplyCode : SupplyState → Nat
  | .none => 0
  | .normal => 1
  | .low => 2
  | .critical => 3

/-- Code of an arbiter mode. -/
def modeCode : ArbMode → Nat
  | .fixed => 0
  | .rotate => 1

/-- Code of a case input mode. -/
def inputModeCode : InputMode → Nat
  | .off => 0
  | .level => 1
  | .edge => 2

/-- Code of a supervision action. -/
def actionCode : SupAction → Nat
  | .park => 0
  | .stop => 1

/-- Code of a supervision state. -/
def supervisionCode : Supervision → Nat
  | .off => 0
  | .active _ => 1
  | .lapsed => 2

/-- Code of a reset cause. -/
def causeCode : ResetCause → Byte
  | .powerOn => 0
  | .brownout => 1
  | .pin => 2
  | .restart => 3

/-- Result codes (R180). -/
def resultCode : Result → Byte
  | .ok => 0x00
  | .checkError => 0x01
  | .lengthError => 0x02
  | .gapError => 0x03
  | .unknownKind => 0x04
  | .badSize => 0x05
  | .busy => 0x06
  | .badBay => 0x07

/-! ## Reading codes that are brought into range -/

/-- An access code above the highest defined code is FULL (R1). -/
def accessOf (b : Byte) : Access :=
  match b.toNat with
  | 0 => .absent
  | 1 => .spinOnly
  | _ => .full

/-- A motion limit code above the highest defined code is ROLLING (R1). -/
def limitOf (b : Byte) : MotionLimit :=
  match b.toNat with
  | 0 => .still
  | _ => .rolling

/-- A target code above that of FLY is FLY (R6). -/
def targetOf (b : Byte) : Intent :=
  match b.toNat with
  | 0 => .off
  | 1 => .spin
  | _ => .fly

/-- A priority above 3 is 3 (R6). -/
def priorityOf (b : Byte) : Fin 4 :=
  match b.toNat with
  | 0 => 0
  | 1 => 1
  | 2 => 2
  | _ => 3

/-- A mode code above ROTATE is ROTATE (4.9). -/
def arbModeOf (b : Byte) : ArbMode :=
  match b.toNat with
  | 0 => .fixed
  | _ => .rotate

/-- A case input mode code above EDGE is EDGE (7.7). -/
def inputModeOf (b : Byte) : InputMode :=
  match b.toNat with
  | 0 => .off
  | 1 => .level
  | _ => .edge

/-- An action code above STOP is STOP (7.7). -/
def actionOf (b : Byte) : SupAction :=
  match b.toNat with
  | 0 => .park
  | _ => .stop

/-- A number brought into `lo..hi`. -/
def clamp (lo hi x : Nat) : Nat := max lo (min x hi)

/-- A bay number, none above 11. -/
def bayOf (b : Byte) : Option BayId := if h : b.toNat < 12 then some ⟨b.toNat, h⟩ else none

/-- The bays that a bay set names, ascending; none when it names a bay above 11 (R6, R21, R189). -/
def baysOf (set : Half) : Option (List BayId) :=
  if set.toNat < 4096 then some (bayIds.filter fun b => set.getLsbD b.val) else none

/-! ## Descriptors -/

/-- A descriptor brought into range field by field, peak draw before run draw (R1). -/
def Descriptor.ofRaw (r : RawDescriptor) : Descriptor where
  access := accessOf r.access
  motionLimit := limitOf r.motionLimit
  peakDraw := clamp 1 60 r.peakDraw.toNat
  runDraw := clamp 1 (clamp 1 60 r.peakDraw.toNat) r.runDraw.toNat
  speedCode := clamp 300 1500 r.speedCode.toNat
  pulses := clamp 1 8 r.pulses.toNat
  tolerance := clamp 1 32 r.tolerance.toNat
  settleCount := clamp 4 64 r.settleCount.toNat
  rampStart := clamp 8 64 r.rampStart.toNat
  rampStep := clamp 1 255 r.rampStep.toNat
  spinupTimeout := clamp 1 60 r.spinupTimeout.toNat
  loadTimeout := clamp 5 200 r.loadTimeout.toNat
  unloadTimeout := clamp 5 200 r.unloadTimeout.toNat
  stopTimeout := clamp 1 120 r.stopTimeout.toNat

/-- A stored descriptor as the bytes of a message carry it (R192). -/
def Descriptor.toRaw (d : Descriptor) : RawDescriptor where
  access := accessCode d.access
  motionLimit := limitCode d.motionLimit
  peakDraw := BitVec.ofNat 8 d.peakDraw
  runDraw := BitVec.ofNat 8 d.runDraw
  speedCode := BitVec.ofNat 16 d.speedCode
  pulses := BitVec.ofNat 8 d.pulses
  tolerance := BitVec.ofNat 8 d.tolerance
  settleCount := BitVec.ofNat 8 d.settleCount
  rampStart := BitVec.ofNat 8 d.rampStart
  rampStep := BitVec.ofNat 8 d.rampStep
  spinupTimeout := BitVec.ofNat 8 d.spinupTimeout
  loadTimeout := BitVec.ofNat 8 d.loadTimeout
  unloadTimeout := BitVec.ofNat 8 d.unloadTimeout
  stopTimeout := BitVec.ofNat 8 d.stopTimeout

/-! ## Motion settings -/

/-- The three thresholds put in order, after each has been brought into its own range (R127). -/
def orderThresholds (roll rough hyst : Nat) : Nat × Nat × Nat :=
  let hyst := if hyst < roll then hyst else roll - 1
  let least := roll + hyst + 1
  if rough < least then (if least > 4095 then (4094 - hyst, 4095, hyst) else (roll, least, hyst)) else (roll, rough, hyst)

/-- A MOTION_SETUP record brought into range and order (R106, R127). -/
def MotionSettings.ofRaw (r : RawMotion) : MotionSettings :=
  let t := orderThresholds (clamp 1 4095 r.rollOn.toNat) (clamp 1 4095 r.roughOn.toNat) (clamp 0 63 r.hysteresis.toNat)
  { gravityShift := clamp 3 10 r.gravityShift.toNat
    windowExponent := clamp 3 6 r.windowExponent.toNat
    shockCode := clamp 1 127 r.shockCode.toNat
    freefallCode := clamp 1 16 r.freefallCode.toNat
    freefallCount := clamp 2 64 r.freefallCount.toNat
    tiltLimit := r.tiltLimit.toNat
    rollOn := t.1
    roughOn := t.2.1
    hysteresis := t.2.2
    quietBase := clamp 1 100 r.quietBase.toNat
    escalationSpan := clamp 1 255 r.escalationSpan.toNat }

/-- The stored motion settings as a record (R194). -/
def MotionSettings.toRaw (m : MotionSettings) : RawMotion where
  gravityShift := BitVec.ofNat 8 m.gravityShift
  windowExponent := BitVec.ofNat 8 m.windowExponent
  shockCode := BitVec.ofNat 8 m.shockCode
  freefallCode := BitVec.ofNat 8 m.freefallCode
  freefallCount := BitVec.ofNat 8 m.freefallCount
  tiltLimit := BitVec.ofNat 8 m.tiltLimit
  rollOn := BitVec.ofNat 16 m.rollOn
  roughOn := BitVec.ofNat 16 m.roughOn
  hysteresis := BitVec.ofNat 8 m.hysteresis
  quietBase := BitVec.ofNat 8 m.quietBase
  escalationSpan := BitVec.ofNat 8 m.escalationSpan

/-! ## Power settings -/

/-- The arbiter with the fields of a POWER_SETUP record, brought into range (R85). -/
def Arbiter.withSettings (a : Arbiter) (r : RawPower) : Arbiter :=
  { a with
    mode := arbModeOf r.mode
    spacing := r.spacing.toNat
    mainsBudget := clamp 1 255 r.mainsBudget.toNat
    batteryBudget := clamp 1 255 r.batteryBudget.toNat }

/-- The Supply Monitor with the fields of a POWER_SETUP record, brought into range: a changed index sets its dwell
count to 0 (R161). -/
def Supply.withSettings (m : Supply) (r : RawPower) : Supply :=
  let warn := clamp 0 15 r.warnIndex.toNat
  let cutoff := clamp 0 15 r.cutoffIndex.toNat
  { m with
    warnIndex := warn
    cutoffIndex := cutoff
    warnDwell := if warn = m.warnIndex then m.warnDwell else 0
    cutoffDwell := if cutoff = m.cutoffIndex then m.cutoffDwell else 0 }

/-- The stored power settings as a record (R193). -/
def powerRecord (a : Arbiter) (m : Supply) : RawPower where
  mode := packed (modeCode a.mode)
  spacing := BitVec.ofNat 8 a.spacing
  mainsBudget := BitVec.ofNat 8 a.mainsBudget
  batteryBudget := BitVec.ofNat 8 a.batteryBudget
  warnIndex := BitVec.ofNat 8 m.warnIndex
  cutoffIndex := BitVec.ofNat 8 m.cutoffIndex

/-! ## Case settings -/

/-- The stored case settings as a record (R196). -/
def caseRecord (p : Policy) : RawCase where
  handleMode := packed (inputModeCode p.handleMode)
  lidMode := packed (inputModeCode p.lidMode)
  period := BitVec.ofNat 8 p.period
  action := packed (actionCode p.action)

/-- A CASE_SETUP record brought into range (R150). -/
def caseInRange (r : RawCase) : RawCase where
  handleMode := packed (inputModeCode (inputModeOf r.handleMode))
  lidMode := packed (inputModeCode (inputModeOf r.lidMode))
  period := r.period
  action := packed (actionCode (actionOf r.action))

/-! ## TRACE and EPISODES fields -/

/-- TRACE's back, count and stride brought into range for a ring of `filled` entries (R107). DESIGN CHOICE: a stride
above 8 is 8, as the rule says, although an example row of 5.8 uses 10. Log entry 28. -/
def traceFields (filled : Nat) (back count stride : Byte) : Nat × Nat × Nat :=
  (min (min back.toNat 63) (filled - 1), min (clamp 1 6 count.toNat) filled, clamp 1 8 stride.toNat)

/-- Some change brought TRACE's fields into range (R107). With the ring empty a count of 0 is changed twice, to 1 and
back to 0; every other change shows in the fields as used. -/
def traceChanged (filled : Nat) (back count stride : Byte) : Bool :=
  decide (count = 0) || decide (traceFields filled back count stride ≠ (back.toNat, count.toNat, stride.toNat))

/-- EPISODES' first and count brought into range for a list of `held` records (R126). -/
def episodeFields (held : Nat) (first count : Byte) : Nat × Nat :=
  let first := min (min first.toNat 7) (held - 1)
  (first, min (clamp 1 4 count.toNat) (held - first))

/-- Some change brought EPISODES' fields into range (R126). With the list empty a count of 0 is changed twice, to 1 and
back to 0; every other change shows in the fields as used. -/
def episodesChanged (held : Nat) (first count : Byte) : Bool :=
  decide (count = 0) || decide (episodeFields held first count ≠ (first.toNat, count.toNat))

end Sys2Proof.Machine
end

