-- ==== Sys2Proof/Machine/BayRecord.lean ====
section
/-! DEFINITION. What entering each bay state does to the bay record (R10, R11, R13, R14, R16, R19, R31, R37, R38, R42,
R51, R52, R56), the speed bands (R36), and fault marks (R17). Each entry is a function of one bay and the Case Clock;
notices, draw reports and captures are made by the operations of BayOps.lean. -/

namespace Sys2Proof

/-- RAMPING through UNLOADING (1.4). -/
def BayState.poweredUp : BayState → Bool
  | .ramping | .settling | .spinning | .loading | .flying | .unloading => true
  | .vacant | .stopped | .queued | .stopping | .faulted => false

/-- RAMPING through STOPPING (1.4). -/
def BayState.turning (st : BayState) : Bool := st.poweredUp || decide (st = .stopping)

/-- SPINNING, LOADING, FLYING, UNLOADING: the states after speed has been proven (2.7). -/
def BayState.proven : BayState → Bool
  | .spinning | .loading | .flying | .unloading => true
  | .vacant | .stopped | .queued | .ramping | .settling | .stopping | .faulted => false

/-- LOADING and FLYING: HLD is raised. -/
def BayState.headsUp (st : BayState) : Bool := decide (st = .loading) || decide (st = .flying)

end Sys2Proof

namespace Sys2Proof.Machine

/-- Enter a state: the entry time is the Case Clock, and HLD takes the state's level at once (R10, R11). -/
def Bay.entered (x : Bay) (st : BayState) (now : Clock) : Bay :=
  { x with state := st, entryTime := now, hld := decide (st = .loading) || decide (st = .flying) }

/-- The target period of a descriptor (R36). -/
def Descriptor.target (d : Descriptor) : Nat :=
  let q := d.speedCode * d.pulses
  (6000000 + q / 2) / q

/-- The band half-width for a target period (R36). -/
def Descriptor.halfWidth (d : Descriptor) (target : Nat) : Nat := target * d.tolerance / 256

/-- The fault band half-width for a target period (R36). -/
def Descriptor.faultHalfWidth (d : Descriptor) (target : Nat) : Nat := target * (2 * d.tolerance) / 256

/-- A period is in band, both ends included (R36). -/
def Bay.inSpeedBand (x : Bay) (period : Nat) : Bool :=
  decide (x.target - x.half ≤ period) && decide (period ≤ x.target + x.half)

/-- A period is inside the fault band, both ends included (R36). -/
def Bay.inFaultBand (x : Bay) (period : Nat) : Bool :=
  decide (x.target - x.faultHalf ≤ period) && decide (period ≤ x.target + x.faultHalf)

/-- RAMPING entry at a grant (R13, R31). -/
def Bay.enterRamping (x : Bay) (now : Clock) : Bay :=
  { x.entered .ramping now with
    target := x.desc.target
    half := x.desc.halfWidth x.desc.target
    faultHalf := x.desc.faultHalfWidth x.desc.target
    duty := x.desc.rampStart
    edgeRef := none
    lastTach := 0
    inBand := 0
    spinupTimer := .after now (x.desc.spinupTimeout * 1000)
    rampTimer := if x.desc.rampStart < 64 then .after now x.desc.rampStep else .idle }

/-- SETTLING entry (R14, R37). -/
def Bay.enterSettling (x : Bay) (now : Clock) : Bay :=
  { x.entered .settling now with
    duty := 64
    rampTimer := .idle
    spinupTimer := .idle
    inBand := 0
    settleTimer := .after now Config.settleMs }

/-- SPINNING entry from SETTLING, the proof of speed (R38). -/
def Bay.enterSpinningProven (x : Bay) (now : Clock) : Bay :=
  { x.entered .spinning now with
    settleTimer := .idle
    offBand := 0
    watchArmed := true
    silenceTimer := .after now Config.silenceMs }

/-- SPINNING entry from a completed unload (R57). -/
def Bay.enterSpinningUnloaded (x : Bay) (now : Clock) : Bay :=
  { x.entered .spinning now with
    unloadTimer := .idle
    guard := .idle }

/-- LOADING entry (R51). -/
def Bay.enterLoading (x : Bay) (now : Clock) : Bay :=
  { x.entered .loading now with
    loadTimer := .after now (10 * x.desc.loadTimeout) }

/-- FLYING entry (R25, R52). -/
def Bay.enterFlying (x : Bay) (now : Clock) : Bay :=
  { x.entered .flying now with
    loadTimer := .idle
    touched := true }

/-- UNLOADING entry (R56). -/
def Bay.enterUnloading (x : Bay) (now : Clock) : Bay :=
  { x.entered .unloading now with
    loadTimer := .idle
    guard := .running (later now Config.guardMs)
    unloadTimer := .after now (10 * x.desc.unloadTimeout) }

/-- STOPPING entry (R42); an unload that ends there leaves its timer and guard idle (R57, R59). -/
def Bay.enterStopping (x : Bay) (now : Clock) : Bay :=
  { x.entered .stopping now with
    duty := 0
    rampTimer := .idle
    spinupTimer := .idle
    settleTimer := .idle
    silenceTimer := .idle
    unloadTimer := .idle
    guard := .idle
    stopTimer := .after now (x.desc.stopTimeout * 1000)
    quietTimer := .after now Config.tachQuietMs }

/-- Every timer of the bay idle. -/
def Bay.timersIdle (x : Bay) : Bay :=
  { x with
    rampTimer := .idle
    spinupTimer := .idle
    settleTimer := .idle
    silenceTimer := .idle
    quietTimer := .idle
    stopTimer := .idle
    loadTimer := .idle
    unloadTimer := .idle
    guard := .idle }

/-- STOPPED entry: marks and reason cleared (R16, R17, R20, R21). -/
def Bay.enterStopped (x : Bay) (now : Clock) : Bay :=
  { (x.entered .stopped now).timersIdle with
    duty := 0
    mark := none
    stopMark := false
    reason := none }

/-- QUEUED entry (R12). -/
def Bay.enterQueued (x : Bay) (now : Clock) : Bay := x.entered .queued now

/-- FAULTED entry: reason, intent OFF, marks cleared, outputs off, timers idle (R19, R44, R45, R66). -/
def Bay.enterFaulted (x : Bay) (reason : BayReason) (now : Clock) : Bay :=
  { (x.entered .faulted now).timersIdle with
    duty := 0
    reason := some reason
    intent := .off
    mark := none
    stopMark := false }

/-- VACANT entry: intent OFF, mark and reason cleared (R3, R5, R17). -/
def Bay.enterVacant (x : Bay) (now : Clock) : Bay :=
  { (x.entered .vacant now).timersIdle with
    duty := 0
    intent := .off
    reason := none
    mark := none
    stopMark := false }

/-- A fault is found: it sets the mark unless the bay carries one, and STRANDED replaces any mark (R17). -/
def Bay.withMark (x : Bay) (reason : BayReason) : Bay :=
  if x.mark.isNone || decide (reason = .stranded) then { x with mark := some { reason := reason, found := x.state } } else x

/-- The draw a bay is charged in a state (R10). -/
def Bay.draw (x : Bay) : Nat :=
  match x.state with
  | .ramping | .settling => x.desc.peakDraw
  | .spinning | .loading | .flying | .unloading => x.desc.runDraw
  | .vacant | .stopped | .queued | .stopping | .faulted => 0

end Sys2Proof.Machine
end

