-- ==== Sys2Proof/Machine/SpinArbiter.lean ====
section
/-! DEFINITION. The Spin Arbiter: committed draw and budget (R71, R73), the candidate (R76, R77), the grant (R78),
evaluation (R75, R79), draw reports (R46, R72), joining and leaving the queue (R68, R69), and what it takes from other
blocks: SPIN_GATE_REPORT, SOURCE_REPORT, SPACING_TIMER_EXPIRY. -/

namespace Sys2Proof.Machine

/-- The committed draw C: the sum of the twelve charges (R71). -/
def Arbiter.committed (a : Arbiter) : Nat := (bayIds.map (atBay a.charges)).sum

/-- The budget in force B (R73). -/
def Arbiter.budget (a : Arbiter) : Nat :=
  match a.source with
  | .mains => a.mainsBudget
  | .battery => a.batteryBudget

/-- The rotation pointer of a priority level (R77). -/
def Arbiter.pointer (a : Arbiter) (level : Fin 4) : BayId := a.pointers[level.val]'level.isLt

/-- The bay after `b`, wrapping from 11 to 0 (R77). -/
def nextBay (b : BayId) : BayId := b + 1

/-- The order in which a level's bays are looked at: from bay 0 in FIXED mode, from the level's pointer in ROTATE
mode, wrapping from 11 to 0 (R76, R77). -/
def Arbiter.searchOrder (a : Arbiter) (level : Fin 4) : List BayId :=
  match a.mode with
  | .fixed => bayIds
  | .rotate => bayIds.map fun i => a.pointer level + i

/-- The peak draw of a bay exceeds B (R76). -/
def State.oversize (s : State) (b : BayId) : Bool := decide (s.arbiter.budget < (s.bay b).desc.peakDraw)

/-- The candidate an evaluation would choose now, gate and timer apart (R76, R77). -/
def State.candidate (s : State) : Option BayId :=
  ([3, 2, 1, 0] : List (Fin 4)).findSome? fun level =>
    (s.arbiter.searchOrder level).find? fun b =>
      s.arbiter.queue.contains b && !s.oversize b && decide ((s.bay b).priority = level)

/-- A candidate fits (R78). -/
def State.fits (s : State) (b : BayId) : Bool :=
  decide (s.arbiter.committed + (s.bay b).desc.peakDraw ≤ s.arbiter.budget)

/-- The arbiter's side of a grant to bay `b`: the entry leaves the queue, the charge becomes the peak draw, the
level's pointer moves in ROTATE mode, and with spacing above 0 the spacing timer starts (R71, R77, R78, R82). -/
def Arbiter.granted (a : Arbiter) (b : BayId) (peak : Nat) (level : Fin 4) (now : Clock) : Arbiter :=
  { a with
    queue := a.queue.filter (· ≠ b)
    charges := putBay a.charges b peak
    pointers :=
      match a.mode with
      | .fixed => a.pointers
      | .rotate => a.pointers.set level.val (nextBay b) level.isLt
    spacingTimer := if a.spacing = 0 then a.spacingTimer else .after now (a.spacing * 10) }

/-- A grant to bay `b` (R13, R78). A bay that holds the stop order standing takes the stop mark at its RAMPING entry
and enters STOPPING at once, releasing its peak draw (R139); the fall of C that this makes is an evaluation event,
which `evaluateWith` makes next. Log entry 25. -/
def State.grant (s : State) (b : BayId) : State :=
  let x := s.bay b
  let s := s.setArbiter (s.arbiter.granted b x.desc.peakDraw x.priority s.clock)
  let ramping := x.enterRamping s.clock
  if x.stopHeld then
    (s.setBay b ({ ramping with stopMark := true }.enterStopping s.clock)).setArbiter
      { s.arbiter with charges := putBay s.arbiter.charges b 0 }
  else
    s.setBay b ramping

/-- The spin gate is open and the spacing timer idle (R75). -/
def Arbiter.mayGrant (a : Arbiter) : Bool := a.gateOpen && decide (a.spacingTimer = .idle)

/-- An evaluation with at most `fuel` grants: it grants the candidate while the gate is open, the spacing timer idle
and the candidate fits (R75, R78, R79). With spacing above 0 the first grant starts the timer and so ends it. -/
def State.evaluateWith : Nat → State → State
  | 0, s => s
  | fuel + 1, s =>
    if s.arbiter.mayGrant then
      match s.candidate with
      | none => s
      | some b => if s.fits b then State.evaluateWith fuel (s.grant b) else s
    else s

/-- An evaluation (R75). Each grant takes one entry out of the queue, so the queue's length bounds the grants. -/
def State.evaluate (s : State) : State := State.evaluateWith s.arbiter.queue.length s

/-- A bay reports a new charge when its charge changes; a report that lowers C is an evaluation event (R46, R72). -/
def State.reportDraw (s : State) (b : BayId) (charge : Nat) : State :=
  let old := atBay s.arbiter.charges b
  if charge = old then s
  else
    let s := s.setArbiter { s.arbiter with charges := putBay s.arbiter.charges b charge }
    if charge < old then s.evaluate else s

/-- Bay `b` enters QUEUED and the tail of the spin queue in one event, which is an evaluation event (R12, R68). -/
def State.joinQueue (s : State) (b : BayId) : State :=
  let s := s.mapBay b (·.enterQueued s.clock)
  (s.setArbiter { s.arbiter with queue := s.arbiter.queue ++ [b] }).evaluate

/-- Bay `b`'s entry leaves the spin queue (R69). -/
def State.unqueue (s : State) (b : BayId) : State :=
  s.setArbiter { s.arbiter with queue := s.arbiter.queue.filter (· ≠ b) }

/-! ## What the arbiter takes -/

/-- SPIN_GATE_REPORT (R83): the opening of the gate is an evaluation event, its closing is not. -/
def takeSpinGate (opened : Bool) (s : State) : State :=
  let was := s.arbiter.gateOpen
  let s := s.setArbiter { s.arbiter with gateOpen := opened }
  if opened && !was then s.evaluate else s

/-- SOURCE_REPORT (R73): B becomes the budget of the new source, and the arbiter makes an evaluation. -/
def takeSource (src : Source) (s : State) : State :=
  (s.setArbiter { s.arbiter with source := src }).evaluate

/-- The expiry of the spacing timer (R82). -/
def takeSpacingExpiry (s : State) : State :=
  if s.arbiter.spacingTimer.due s.clock then (s.setArbiter { s.arbiter with spacingTimer := .idle }).evaluate else s

/-- SPIN_GATE_REPORT. -/
def execSpinGateReport (opened : Bool) (s : State) : Host.Outcome State Fault Refusal :=
  s.event (.spinGateReport opened) (takeSpinGate opened)

/-- SOURCE_REPORT. -/
def execSourceReport (src : Source) (s : State) : Host.Outcome State Fault Refusal :=
  s.event (.sourceReport src) (takeSource src)

/-- SPACING_TIMER_EXPIRY. -/
def execSpacingTimerExpiry (s : State) : Host.Outcome State Fault Refusal :=
  s.event .spacingTimerExpiry takeSpacingExpiry

end Sys2Proof.Machine
end

