-- ==== Sys2Proof/Machine/BayOps.lean ====
section
/-! DEFINITION. The transitions of a bay with what they hand to other blocks: BAY notices (R11), draw reports (R46),
captures (R19), unload and stranding reports (R64, R65), joining the queue (R12), and the seat events (R23, R24). -/

namespace Sys2Proof.Machine

/-- Post the BAY notice of bay `b`: its state and, in FAULTED, its reason (R11). -/
def State.postBay (s : State) (b : BayId) : State :=
  s.post (.bay b) { b0 := stateCode (s.bay b).state, b1 := reasonCode? (s.bay b).reason, b2 := 0, b3 := 0 }

/-- STOPPING entry with its draw report (R42, R46). -/
def State.toStopping (s : State) (b : BayId) : State :=
  (s.mapBay b (·.enterStopping s.clock)).reportDraw b 0

/-- STOPPED entry with its notice (R11, R16). -/
def State.toStopped (s : State) (b : BayId) : State :=
  (s.mapBay b (·.enterStopped s.clock)).postBay b

/-- UNLOADING entry (R56). -/
def State.toUnloading (s : State) (b : BayId) : State := s.mapBay b (·.enterUnloading s.clock)

/-- FAULTED entry: the bay's record, the report of charge 0, the capture, and last the BAY notice (R19). -/
def State.toFaulted (s : State) (b : BayId) (reason : BayReason) (found : BayState) : State :=
  let s := (s.mapBay b (·.enterFaulted reason s.clock)).reportDraw b 0
  let x := s.bay b
  (s.handOn [.faultCapture (.bay b reason found s.clock x.lastTach x.prkLevel)]).postBay b

/-- A bay SPINNING with intent FLY, load permission true and PRK asserted enters LOADING (R50). -/
def Bay.readyToLoad (x : Bay) : Bool :=
  decide (x.state = .spinning) && decide (x.intent = .fly) && x.loadPermission && x.prkLevel

/-- The test for LOADING (R50, R51). -/
def State.loadTest (s : State) (b : BayId) : State :=
  if (s.bay b).readyToLoad then s.mapBay b (·.enterLoading s.clock) else s

/-- What follows a SPINNING entry at once: a PRK level already released is an unsolicited release (R61), otherwise
the test for LOADING (R50). -/
def State.afterSpinning (s : State) (b : BayId) : State :=
  if (s.bay b).prkLevel then s.loadTest b else s.toUnloading b

/-- SPINNING entry from SETTLING: notice, change of charge from peak to run draw, and what follows (R11, R38). -/
def State.toSpinningProven (s : State) (b : BayId) : State :=
  let s := (s.mapBay b (·.enterSpinningProven s.clock)).postBay b
  (s.reportDraw b (s.bay b).desc.runDraw).afterSpinning b

/-- SPINNING entry from a completed unload: notice and what follows (R11, R57). -/
def State.toSpinningUnloaded (s : State) (b : BayId) : State :=
  ((s.mapBay b (·.enterSpinningUnloaded s.clock)).postBay b).afterSpinning b

/-- A STOPPED bay that is seated and whose intent is SPIN or FLY joins the spin queue (R12). -/
def State.queueIfWanted (s : State) (b : BayId) : State :=
  let x := s.bay b
  if decide (x.state = .stopped) && x.seated && decide (x.intent ≠ .off) then s.joinQueue b else s

/-- Speed lost is found: the speed watch is spent, and the bay acts by its state (R41). -/
def State.speedLost (s : State) (b : BayId) : State :=
  let s := s.mapBay b fun x => { x with watchArmed := false }
  match (s.bay b).state with
  | .spinning => (s.mapBay b (·.withMark .speedLost)).toStopping b
  | .loading | .flying => (s.mapBay b (·.withMark .speedLost)).toUnloading b
  | .unloading => s.mapBay b (·.withMark .speedLost)
  | .vacant | .stopped | .queued | .ramping | .settling | .stopping | .faulted => s

/-! ## Seat events -/

/-- An unseat (R23). A bay that is not seated cannot lose its seat. Log entry 26. -/
def takeUnseat (b : BayId) (s : State) : State :=
  if (s.bay b).seated then
    let s := s.mapBay b fun x => { x with seated := false, seatCount := 0 }
    match (s.bay b).state with
    | .vacant | .stopped | .faulted => s
    | .queued =>
      (((s.unqueue b).mapBay b fun x => { x with intent := .off }).toStopped b).evaluate
    | .ramping | .settling | .spinning | .loading | .flying | .unloading | .stopping =>
      s.toFaulted b .unseated (s.bay b).state
  else s

/-- A reseat (R24). A seated bay cannot be reseated. -/
def takeReseat (b : BayId) (s : State) : State :=
  if (s.bay b).seated then s
  else (s.mapBay b fun x => { x with seated := true, seatCount := 0 }).queueIfWanted b

/-- UNSEAT. -/
def execUnseat (b : BayId) (s : State) : Host.Outcome State Fault Refusal := s.event (.unseat b) (takeUnseat b)

/-- RESEAT. -/
def execReseat (b : BayId) (s : State) : Host.Outcome State Fault Refusal := s.event (.reseat b) (takeReseat b)

/-! ## Orders and reports of the Park Policy -/

/-- A forced-unload order: from LOADING or FLYING the bay unloads with no mark and reports one unload; in any other
state it has no effect (R54, R58, R64). -/
def takeForcedUnload (b : BayId) (s : State) : State :=
  if (s.bay b).state.headsUp then (s.toUnloading b).handOn [.unloadReport b] else s

/-- The stop order (R20, R62, R139). -/
def takeStopOrder (b : BayId) (s : State) : State :=
  let s := s.mapBay b fun x => { x with stopHeld := true }
  match (s.bay b).state with
  | .ramping | .settling | .spinning => (s.mapBay b fun x => { x with stopMark := true }).toStopping b
  | .loading | .flying =>
    ((s.mapBay b fun x => { x with stopMark := true }).toUnloading b).handOn [.unloadReport b]
  | .unloading => s.mapBay b fun x => { x with stopMark := true }
  | .vacant | .stopped | .queued | .stopping | .faulted => s

/-- The lifting of the stop order: held as lifted; a stop mark already set stays (R139). -/
def takeStopOrderLift (b : BayId) (s : State) : State := s.mapBay b fun x => { x with stopHeld := false }

/-- A change of load permission: held, and true is an event that tests for LOADING (R50, R136). -/
def takeLoadPermission (b : BayId) (allowed : Bool) (s : State) : State :=
  let s := s.mapBay b fun x => { x with loadPermission := allowed }
  if allowed then s.loadTest b else s

/-- FORCED_UNLOAD_ORDER. -/
def execForcedUnloadOrder (b : BayId) (s : State) : Host.Outcome State Fault Refusal :=
  s.event (.forcedUnloadOrder b) (takeForcedUnload b)

/-- STOP_ORDER. -/
def execStopOrder (b : BayId) (s : State) : Host.Outcome State Fault Refusal :=
  s.event (.stopOrder b) (takeStopOrder b)

/-- STOP_ORDER_LIFT. -/
def execStopOrderLift (b : BayId) (s : State) : Host.Outcome State Fault Refusal :=
  s.event (.stopOrderLift b) (takeStopOrderLift b)

/-- LOAD_PERMISSION_REPORT. -/
def execLoadPermissionReport (b : BayId) (allowed : Bool) (s : State) : Host.Outcome State Fault Refusal :=
  s.event (.loadPermissionReport b allowed) (takeLoadPermission b allowed)

end Sys2Proof.Machine
end

