-- ==== Sys2Proof/Machine/NoticeQueue.lean ====
section
/-! DEFINITION. The Notice Queue (R197 to R204) and the Fault Record (R207 to R209). -/

namespace Sys2Proof

/-- The number of a key, 0 to 21 (R197). -/
def Key.number : Key → Nat
  | .bay n => n.val
  | .shock => 12
  | .freefall => 13
  | .fault => 14
  | .supply => 15
  | .supervision => 16
  | .sensor => 17
  | .motion => 18
  | .tilt => 19
  | .episode => 20
  | .input => 21

/-- The urgency of a key: true for urgent (R197). -/
def Key.urgent : Key → Bool
  | .shock | .freefall | .fault | .supply | .supervision | .sensor => true
  | .bay _ | .motion | .tilt | .episode | .input => false

/-- The kind of a key, as its mask bit (R197). -/
def Key.kind : Key → Fin 11
  | .bay _ => 0
  | .shock => 1
  | .freefall => 2
  | .fault => 3
  | .supply => 4
  | .supervision => 5
  | .sensor => 6
  | .motion => 7
  | .tilt => 8
  | .episode => 9
  | .input => 10

end Sys2Proof

namespace Sys2Proof.Machine

/-! ## The queue -/

/-- A key's kind is masked (R204). -/
def Notices.masked (n : Notices) (k : Key) : Bool := n.mask.getLsbD k.kind.val

/-- A key is queued (R198). -/
def Notices.queued (n : Notices) (k : Key) : Bool := n.queue.any fun e => e.key = k

/-- A key is pending (R198). -/
def Notices.isPending (n : Notices) (k : Key) : Bool := n.pending.any fun e => e.key = k

/-- A further post of a notice: latest payload and time, count raised up to 255 (R199). -/
def Notice.again (e : Notice) (time : Clock) (p : NoticePayload) : Notice :=
  { e with count := min 255 (e.count + 1), time := time, payload := p }

/-- Bring the notices of key `k` in a list up to date (R199). -/
def coalesce (l : List Notice) (k : Key) (time : Clock) (p : NoticePayload) : List Notice :=
  l.map fun e => if e.key = k then e.again time p else e

/-- Place a new entry directly behind the last entry of its urgency: an urgent one ahead of every routine one, a
routine one at the tail (R200). -/
def placeEntry (q : List Notice) (e : Notice) : List Notice :=
  if e.key.urgent then (q.takeWhile (·.key.urgent)) ++ e :: (q.dropWhile (·.key.urgent)) else q ++ [e]

/-- Put a pending record in its place by key number. -/
def insertPending (l : List Notice) (e : Notice) : List Notice :=
  (l.takeWhile fun x => decide (x.key.number < e.key.number)) ++ e ::
    (l.dropWhile fun x => decide (x.key.number < e.key.number))

/-- A post of key `k`, by the first case of R199 that applies. -/
def Notices.posted (n : Notices) (k : Key) (time : Clock) (p : NoticePayload) : Notices :=
  if n.queued k then { n with queue := coalesce n.queue k time p }
  else if n.isPending k then { n with pending := coalesce n.pending k time p }
  else if !n.masked k && decide (n.queue.length < Config.noticePlaces) then
    { n with queue := placeEntry n.queue { key := k, count := 1, time := time, payload := p } }
  else { n with pending := insertPending n.pending { key := k, count := 1, time := time, payload := p } }

/-- The pending key that enters next: of an unmasked kind, urgent before routine, lowest key number first (R201). -/
def Notices.nextEntering (n : Notices) : Option Notice :=
  match n.pending.find? fun e => !n.masked e.key && e.key.urgent with
  | some e => some e
  | none => n.pending.find? fun e => !n.masked e.key

/-- Pending keys of unmasked kinds enter while the queue has room, at most `fuel` of them (R201). -/
def Notices.fill : Nat → Notices → Notices
  | 0, n => n
  | fuel + 1, n =>
    if n.queue.length < Config.noticePlaces then
      match n.nextEntering with
      | none => n
      | some e =>
        Notices.fill fuel
          { n with queue := placeEntry n.queue e, pending := n.pending.filter fun x => decide (x.key ≠ e.key) }
    else n

/-- The queue filled from pending (R201). Each entry takes a pending record away, so their number bounds them. -/
def Notices.filled (n : Notices) : Notices := Notices.fill n.pending.length n

/-- NOTICE_FETCH on the queue: the head entry, and the queue without it, filled from pending (R202). -/
def Notices.fetched (n : Notices) : Option Notice × Notices :=
  match n.queue with
  | [] => (none, n)
  | e :: rest => (some e, { n with queue := rest }.filled)

/-- NOTICE_MASK on the queue: the mask replaced, bits 11 to 15 ignored; when a kind becomes unmasked, pending keys
of unmasked kinds enter (R201, R204). -/
def Notices.remasked (n : Notices) (mask : Half) : Notices :=
  let new : BitVec 11 := mask.extractLsb' 0 11
  if n.mask &&& ~~~new = 0 then { n with mask := new } else { n with mask := new }.filled

/-- NOTICE_POST on the part (R199). -/
def takePost (k : Key) (time : Clock) (p : NoticePayload) (s : State) : State :=
  s.setNotices (s.notices.posted k time p)

/-! ## The fault record -/

/-- FAULT_CAPTURE (R207): frozen, it sets more; not frozen, the capture is stored, and FAULT is posted in the same event
(R208). -/
def takeCapture (c : Capture) (s : State) : State :=
  if s.faults.frozen then s.setFaults { s.faults with more := true }
  else
    takePost .fault s.clock { b0 := c.reasonCode, b1 := c.sourceCode, b2 := 0, b3 := 0 }
      (s.setFaults { record := some c, more := s.faults.more })

/-- NOTICE_POST. -/
def execNoticePost (k : Key) (time : Clock) (p : NoticePayload) (s : State) : Host.Outcome State Fault Refusal :=
  s.event (.noticePost k time p) (takePost k time p)

/-- FAULT_CAPTURE. -/
def execFaultCapture (c : Capture) (s : State) : Host.Outcome State Fault Refusal :=
  s.event (.faultCapture c) (takeCapture c)

end Sys2Proof.Machine
end

