-- ==== Sys2Proof/Machine/ParkPolicy.lean ====
section
/-! DEFINITION. The Park Policy: permissions, spin gate and stop order (R134, R135, R138, R139), re-evaluation (R133),
the handed inputs (R132), the case inputs (R142 to R145), supervision (R147 to R149). -/

namespace Sys2Proof.Machine

/-- A class is at or below a motion limit; UNPRIMED is outside the order (R134 condition 1). -/
def classWithin (limit : MotionLimit) : MotionClass → Bool
  | .unprimed => false
  | .still => true
  | .rolling => decide (limit = .rolling)
  | .rough => false

/-- No case input in LEVEL mode is asserted (R134 condition 6). -/
def Policy.inputsOpen (p : Policy) : Bool :=
  !(decide (p.handleMode = .level) && p.handleState) && !(decide (p.lidMode = .level) && p.lidState)

/-- Flight permission of a bay (R135): conditions 1, 2 and 4 to 7 of R134. -/
def Policy.flight (p : Policy) (b : BayId) : Bool :=
  classWithin (atBay p.table b).motionLimit p.classSeen && decide (p.tiltSeen = .level) &&
  (decide (p.supplySeen = .normal) || decide (p.supplySeen = .low)) && decide (p.supervision ≠ .lapsed) &&
  p.inputsOpen && decide ((atBay p.table b).access = .full)

/-- Load permission of a bay (R134): flight permission and the quiet seen QUIET. -/
def Policy.load (p : Policy) (b : BayId) : Bool := p.flight b && p.quietSeen

/-- Supervision is LAPSED with action STOP. -/
def Policy.lapsedStop (p : Policy) : Bool := decide (p.supervision = .lapsed) && decide (p.action = .stop)

/-- The spin gate is open (R138). -/
def Policy.gate (p : Policy) : Bool :=
  (decide (p.classSeen = .still) || decide (p.classSeen = .rolling)) && decide (p.supplySeen = .normal) && !p.lapsedStop

/-- The stop order stands (R139). -/
def Policy.stop (p : Policy) : Bool := decide (p.supplySeen = .critical) || p.lapsedStop

/-- A table of twelve from a function of the bay. -/
def tableOf {α : Type} (f : BayId → α) : Vector α 12 :=
  #v[f 0, f 1, f 2, f 3, f 4, f 5, f 6, f 7, f 8, f 9, f 10, f 11]

/-- The policy with every output computed afresh (R133). -/
def Policy.computed (p : Policy) : Policy :=
  { p with
    loadPermission := tableOf p.load
    flightPermission := tableOf p.flight
    gateOpen := p.gate
    stopStanding := p.stop }

/-- What a re-evaluation hands on, from the outputs before (`p`) and after (`q`): each change of a load permission
(R136), a forced-unload order to each bay whose flight permission fell (R137), the stop order or its lifting to every
bay (R139), and last the spin gate to the arbiter (R138), so that every bay takes a lifting before the arbiter takes
the opening. Log entry 27. -/
def policyHandoffs (p q : Policy) : List Instr :=
  ((bayIds.filter fun b => atBay p.loadPermission b != atBay q.loadPermission b).map fun b =>
    .loadPermissionReport b (atBay q.loadPermission b)) ++
  ((bayIds.filter fun b => atBay p.flightPermission b && !atBay q.flightPermission b).map .forcedUnloadOrder) ++
  (if q.stopStanding && !p.stopStanding then bayIds.map .stopOrder
   else if p.stopStanding && !q.stopStanding then bayIds.map .stopOrderLift else []) ++
  (if p.gateOpen = q.gateOpen then [] else [.spinGateReport q.gateOpen])

/-- A re-evaluation (R133). -/
def State.reevaluate (s : State) : State :=
  (s.setPolicy s.policy.computed).handOn (policyHandoffs s.policy s.policy.computed)

/-- Give the policy new inputs; a change re-evaluates (R133). -/
def State.policyInput (s : State) (p : Policy) : State :=
  if p = s.policy then s else (s.setPolicy p).reevaluate

/-! ## Handed inputs -/

/-- A handed class, tilt or quiet change (R132). -/
def takeVerdict (cls : Option MotionClass) (tilt : Option Tilt) (quiet : Option Bool) (s : State) : State :=
  s.policyInput
    { s.policy with
      classSeen := cls.getD s.policy.classSeen
      tiltSeen := tilt.getD s.policy.tiltSeen
      quietSeen := quiet.getD s.policy.quietSeen }

/-- A handed supply state (R132). -/
def takeSupplyState (st : SupplyState) (s : State) : State := s.policyInput { s.policy with supplySeen := st }

/-- The bay table takes the stored access and motion limit of an accepted BAY_SETUP (R132). -/
def State.policyTable (s : State) (b : BayId) (d : Descriptor) : State :=
  s.policyInput
    { s.policy with table := putBay s.policy.table b { access := d.access, motionLimit := d.motionLimit } }

/-! ## Case inputs -/

/-- The mode of a case input. -/
def Policy.mode (p : Policy) : CaseInput → InputMode
  | .handle => p.handleMode
  | .lid => p.lidMode

/-- The debounced state of a case input: asserted. -/
def Policy.asserted (p : Policy) : CaseInput → Bool
  | .handle => p.handleState
  | .lid => p.lidState

/-- The policy with the debounced state of a case input changed, its count at 0 (R141). -/
def Policy.withInput (p : Policy) (i : CaseInput) (asserted : Bool) : Policy :=
  match i with
  | .handle => { p with handleState := asserted, handleCount := 0 }
  | .lid => { p with lidState := asserted, lidCount := 0 }

/-- Post the INPUT notice (R142, R143, R196). -/
def State.postInput (s : State) (i : CaseInput) (asserted : Bool) : State :=
  s.post .input
    { b0 := match i with | .handle => 0 | .lid => 1, b1 := packed asserted.toNat, b2 := 0, b3 := 0 }

/-- An assertion of a case input, by its mode (R142, R143, R144). An asserted input cannot be asserted again. -/
def takeAssertion (i : CaseInput) (s : State) : State :=
  if s.policy.asserted i then s
  else
    let p := s.policy.withInput i true
    match p.mode i with
    | .off => s.setPolicy p
    | .level => ((s.setPolicy p).reevaluate).postInput i true
    | .edge =>
      ((((s.setPolicy p).handOn (bayIds.map .forcedUnloadOrder)).handOn [.quietRestartRequest]).policyInput
        { p with quietSeen := false }).postInput i true

/-- A release of a case input, by its mode (R142, R143, R144). A released input cannot be released again. -/
def takeRelease (i : CaseInput) (s : State) : State :=
  if s.policy.asserted i then
    let p := s.policy.withInput i false
    match p.mode i with
    | .off | .edge => s.setPolicy p
    | .level =>
      (((s.postInput i false).handOn [.quietRestartRequest]).setPolicy { p with quietSeen := false }).reevaluate
  else s

/-! ## Supervision -/

/-- The supervision expiry of a reload at `now` (R147, R150, R153). -/
def Policy.reloaded (p : Policy) (now : Clock) : Supervision := .active (later now (p.period * 100))

/-- An accepted request is reported: ACTIVE reloads, LAPSED becomes ACTIVE and re-evaluates (R147, R149). -/
def State.acceptedRequest (s : State) : State :=
  match s.policy.supervision with
  | .off => s
  | .active _ => s.setPolicy { s.policy with supervision := s.policy.reloaded s.clock }
  | .lapsed => (s.setPolicy { s.policy with supervision := s.policy.reloaded s.clock }).reevaluate

/-- Supervision is ACTIVE and its expiry has been reached. -/
def Supervision.due (now : Clock) : Supervision → Bool
  | .off => false
  | .active e => reached now e
  | .lapsed => false

/-- The supervision expiry is reached in ACTIVE: the lapse (R148). -/
def takeLapse (s : State) : State :=
  if s.policy.supervision.due s.clock then
    let s := (s.setPolicy { s.policy with supervision := .lapsed }).post .supervision { b0 := 0, b1 := 0, b2 := 0, b3 := 0 }
    (s.setLink { s.link with lapseSeen := true }).reevaluate
  else s

/-- A warm restart reloads the supervision timer and ends a lapse with a re-evaluation; with period 0 the state
stays OFF (R153). -/
def State.restartSupervision (s : State) : State :=
  if s.policy.period = 0 then s
  else
    let s' := s.setPolicy { s.policy with supervision := s.policy.reloaded s.clock }
    match s.policy.supervision with
    | .active _ => s'
    | .off | .lapsed => s'.reevaluate

/-! ## CASE_SETUP -/

/-- A LEVEL-mode input that was asserted leaves LEVEL mode: as at a release (R145). -/
def leavesLevel (old new : InputMode) (asserted : Bool) : Bool :=
  decide (old = .level) && decide (new ≠ .level) && asserted

/-- What an accepted CASE_SETUP does: modes, period, action, restart requests of inputs that leave LEVEL asserted,
and one re-evaluation (R145, R150). -/
def State.caseSetup (s : State) (r : RawCase) : State :=
  let p := s.policy
  let handle := inputModeOf r.handleMode
  let lid := inputModeOf r.lidMode
  let period := r.period.toNat
  let leaveHandle := leavesLevel p.handleMode handle p.handleState
  let leaveLid := leavesLevel p.lidMode lid p.lidState
  let q : Policy :=
    { p with
      handleMode := handle
      lidMode := lid
      period := period
      action := actionOf r.action
      supervision := if period = 0 then .off else .active (later s.clock (period * 100))
      quietSeen := if leaveHandle || leaveLid then false else p.quietSeen }
  (((s.handOn (if leaveHandle then [.quietRestartRequest] else [])).handOn
    (if leaveLid then [.quietRestartRequest] else [])).setPolicy q).reevaluate

/-! ## Commands -/

/-- MOTION_VERDICT_HANDOFF. -/
def execMotionVerdictHandoff (cls : Option MotionClass) (tilt : Option Tilt) (quiet : Option Bool) (s : State) :
    Host.Outcome State Fault Refusal :=
  s.event (.motionVerdictHandoff cls tilt quiet) (takeVerdict cls tilt quiet)

/-- SUPPLY_STATE_REPORT. -/
def execSupplyStateReport (st : SupplyState) (s : State) : Host.Outcome State Fault Refusal :=
  s.event (.supplyStateReport st) (takeSupplyState st)

/-- CASE_INPUT_ASSERTION. -/
def execCaseInputAssertion (i : CaseInput) (s : State) : Host.Outcome State Fault Refusal :=
  s.event (.caseInputAssertion i) (takeAssertion i)

/-- CASE_INPUT_RELEASE. -/
def execCaseInputRelease (i : CaseInput) (s : State) : Host.Outcome State Fault Refusal :=
  s.event (.caseInputRelease i) (takeRelease i)

/-- SUPERVISION_LAPSE. -/
def execSupervisionLapse (s : State) : Host.Outcome State Fault Refusal := s.event .supervisionLapse takeLapse

end Sys2Proof.Machine
end

