-- ==== Sys2Proof/Machine/Flags.lean ====
section
/-! DEFINITION. The flags and reason sets that are computed when a reply is built: the flags byte (R181), the held
reasons of a bay (R26, R84), the closing causes of the policy (R151). -/

namespace Sys2Proof.Machine

/-! ## Held reasons -/

/-- OVERSIZE of a queued bay (R84). -/
def State.heldOversize (s : State) (b : BayId) : Bool := s.arbiter.queue.contains b && s.oversize b

/-- SPACING of a queued bay (R84). -/
def State.heldSpacing (s : State) (b : BayId) : Bool :=
  s.arbiter.queue.contains b && !s.oversize b && decide (s.arbiter.spacingTimer ≠ .idle)

/-- BUDGET of a queued bay: it is not OVERSIZE, and the candidate, gate and timer apart, does not fit (R84). -/
def State.heldBudget (s : State) (b : BayId) : Bool :=
  s.arbiter.queue.contains b && !s.oversize b &&
    match s.candidate with
    | none => false
    | some c => !s.fits c

/-- SPIN_GATE (R26), by the gate as the arbiter holds it. Log entry 24. -/
def State.heldSpinGate (s : State) (b : BayId) : Bool :=
  decide ((s.bay b).state = .queued) && !s.arbiter.gateOpen

/-- LOAD_GATE (R26). -/
def Bay.heldLoadGate (x : Bay) : Bool :=
  decide (x.state = .spinning) && decide (x.intent = .fly) && !x.loadPermission

/-- NOT_SEATED (R26). -/
def Bay.heldNotSeated (x : Bay) : Bool :=
  decide (x.state = .stopped) && !x.seated && decide (x.intent ≠ .off)

/-- The held reasons of a bay as a bit set (R26, R190). -/
def State.heldReasons (s : State) (b : BayId) : Byte :=
  packed ((s.heldSpinGate b).toNat + (s.bay b).heldLoadGate.toNat * 2 + (s.heldBudget b).toNat * 4 +
    (s.heldSpacing b).toNat * 8 + (s.heldOversize b).toNat * 16 + (s.bay b).heldNotSeated.toNat * 32)

/-! ## Closing causes -/

/-- The closing causes of the policy as a bit set (R151, R196). -/
def Policy.closingCauses (p : Policy) : Byte :=
  packed ((decide (p.classSeen = .unprimed) || decide (p.classSeen = .rough)).toNat + p.tiltSeen.isTilted.toNat * 2 +
    (!p.quietSeen).toNat * 4 + (decide (p.supplySeen = .critical)).toNat * 8 +
    (decide (p.supervision = .lapsed)).toNat * 16 +
    (decide (p.handleMode = .level) && p.handleState).toNat * 32 +
    (decide (p.lidMode = .level) && p.lidState).toNat * 64)

/-! ## The flags byte -/

/-- The flags byte of a reply, from the state as it stands (R181). -/
def State.flags (s : State) (clamped : Bool) : Byte :=
  packed (s.attnLow.toNat + s.faults.frozen.toNat * 2 + s.link.overrun.toNat * 4 + s.link.lapseSeen.toNat * 8 +
    clamped.toNat * 16)

end Sys2Proof.Machine
end

