-- ==== Sys2Proof/Machine/SpiPort.lean ====
section
/-! DEFINITION. The accelerometer's SPI port (5.2, R88): the transfers that the port makes, the levels of SCS#, SCK and
SDO through each of them and at rest, and the bytes that the bits on SDI make. Where in a transfer the part stands is no
state of the model (log entry 15): the levels are given for every place in it. -/

namespace Sys2Proof.Machine

/-- The levels of the port's outputs; `sdo` is none where the manual gives SDO no level. -/
structure SpiPins where
  scsHigh : Bool
  sckHigh : Bool
  sdo : Option Bool
  deriving DecidableEq, Repr

/-- No transfer in progress: SCS# high, SCK idle low (R88). -/
def SpiPins.rest : SpiPins := { scsHigh := true, sckHigh := false, sdo := none }

/-- One transfer: the bytes sent on SDO, then the number of bytes received on SDI (5.2). -/
structure Transfer where
  sent : List Byte
  received : Nat
  deriving DecidableEq, Repr

/-- The transfers that the port makes, in order (5.2, R88, R89): range, rate and ready write and identity read of a
SETUP; one sample read. -/
def Port.transfers : Port → List Transfer
  | .idle => []
  | .settingUp =>
    [{ sent := [33, 3], received := 0 }, { sent := [34, 6], received := 0 }, { sent := [35, 1], received := 0 },
     { sent := [168], received := 1 }]
  | .reading => [{ sent := [176], received := 6 }]

/-- The bits of a byte as they are shifted: most significant first (R88). -/
def shiftedBits (b : Byte) : List Bool := (List.range 8).map fun i => b.getLsbD (7 - i)

/-- The byte that eight bits make, the first received the most significant (R88). -/
def shiftedByte (bits : List Bool) : Byte := BitVec.ofNat 8 (bits.foldl (fun n bit => 2 * n + bit.toNat) 0)

/-- A received axis value, 16-bit little-endian (5.2): its low byte comes first. -/
def axisOfBytes (low high : Byte) : Half := high ++ low

/-- SDO bit by bit through a transfer: the bytes sent, then one place for each bit received. -/
def Transfer.sdoBits (t : Transfer) : List (Option Bool) :=
  (t.sent.flatMap shiftedBits).map some ++ List.replicate (8 * t.received) none

/-- The levels through one transfer, half a bit at a time (R88): SCS# goes low with SCK low; each bit is SCK low and then
high, SDI sampled at the rise; SCS# returns high when the last byte has been shifted. DESIGN CHOICE: it stays high for one
half of a bit before the next transfer of a SETUP, a time that the manual leaves open. Log entry 31. -/
def Transfer.levels (t : Transfer) : List SpiPins :=
  (t.sdoBits.flatMap fun d =>
    [{ scsHigh := false, sckHigh := false, sdo := d }, { scsHigh := false, sckHigh := true, sdo := d }]) ++ [.rest]

/-- The levels through all that the port is doing, one transfer after another (R88). -/
def Port.levels (p : Port) : List SpiPins := p.transfers.flatMap Transfer.levels

/-- The levels of the port's outputs, `place` halves of a bit into what the port is doing. In reset and in a start-up
interval SCS# is held high and SCK low (R88, R165, R183). -/
def State.spiPins (s : State) (place : Nat) : SpiPins :=
  if s.operating then s.motion.port.levels.getD place .rest else .rest

end Sys2Proof.Machine
end

