-- ==== Sys2Proof/Machine/MotionUnit.lean ====
section
/-! DEFINITION. The Motion Unit: the accelerometer's set-up, running and loss (5.3), the computation at each arrival
(5.4, 5.5), motion classes, the quiet timer and episodes (06), and the window change (R104). -/

namespace Sys2Proof.Machine

/-! ## Sensor set-up, running, loss -/

/-- Post the SENSOR notice with the present sensor state (R90, R92, R196). -/
def State.postSensor (s : State) : State :=
  s.post .sensor { b0 := packed (sensorCode s.motion.sensor), b1 := 0, b2 := 0, b3 := 0 }

/-- SETUP entry: the set-up and identity transfers begin (R89). -/
def Motion.enterSetup (m : Motion) (now : Clock) (first : Bool) : Motion :=
  { m with sensor := .setup, port := .settingUp, window := .idle, firstSetup := first, setupEntry := now }

/-- A set-up failure: LOST, the retry timer 100 ms from the SETUP entry that failed, and on the first set-up after a
full reset a capture and the SENSOR notice (R90). -/
def State.setupFailure (s : State) : State :=
  let m := s.motion
  let first := m.firstSetup
  let s := s.setMotion
    { m with
      sensor := .lost, port := .idle, window := .idle, firstSetup := false,
      retry := .running (later m.setupEntry Config.retryMs) }
  if first then (s.handOn [.faultCapture (.sensorLost s.clock)]).postSensor else s

/-- RUNNING entry: the watch starts, the first read begins, the run and its priming are at 0 (R90). -/
def Motion.enterRunning (m : Motion) (now : Clock) : Motion :=
  { m with
    sensor := .running
    port := .reading
    window := .idle
    retry := .idle
    watch := .after now Config.watchMs
    firstSetup := false
    runLength := 0
    priming := 0
    primed := false }

/-- The identity read completes (R89, R90). -/
def takeIdentity (id : Byte) (s : State) : State :=
  let m := s.motion
  if decide (m.sensor = .setup) && decide (m.port = .settingUp) then
    if id = Config.sensorIdentity then
      s.setMotion { m with port := .idle, window := .after s.clock Config.windowMs }
    else s.setupFailure
  else s

/-- The set-up window expires with no DRDY edge (R90). -/
def takeWindowExpiry (s : State) : State :=
  let m := s.motion
  if decide (m.sensor = .setup) && m.window.due s.clock then s.setupFailure else s

/-- The retry timer expires in LOST: it restarts and SETUP is entered, flag clear (R94). -/
def takeRetryExpiry (s : State) : State :=
  let m := s.motion
  if decide (m.sensor = .lost) && m.retry.due s.clock then
    s.setMotion { m.enterSetup s.clock false with retry := .after s.clock Config.retryMs }
  else s

/-- A DRDY rising edge: in RUNNING it restarts the watch and starts a read if none is in progress; in SETUP within
the set-up window it ends SETUP; otherwise it is ignored (R89, R90, R91, R94). -/
def takeDrdy (s : State) : State :=
  let m := s.motion
  match m.sensor with
  | .running => s.setMotion { m with watch := .after s.clock Config.watchMs, port := .reading }
  | .setup =>
    match m.window with
    | .idle => s
    | .running _ =>
      let s' := s.setMotion (m.enterRunning s.clock)
      if m.firstSetup then s' else s'.postSensor
  | .lost => s

/-! ## Class changes -/

/-- A class change outside the arrivals, to UNPRIMED: handed to the policy and posted with L 0 (R113, R114). -/
def State.unprime (s : State) : State :=
  let m := s.motion
  if m.cls = .unprimed then s
  else
    ((s.setMotion { m with cls := .unprimed }).post .motion
      { b0 := packed (classCode .unprimed), b1 := 0, b2 := 0, b3 := 0 }).handOn
        [.motionVerdictHandoff (some .unprimed) none none]

/-- The measure cleared at entry to LOST from RUNNING (R93). -/
def Motion.clearMeasure (m : Motion) : Motion :=
  { m with sum := 0, runLength := 0, priming := 0, primed := false, freefallRun := 0, freefallReported := false }

/-- The DRDY watch expires in RUNNING: the sensor is lost (R92, R93). A read in progress completes first: the expiry
waits for its arrival. Log entry 17. -/
def takeWatchExpiry (s : State) : State :=
  let m := s.motion
  if decide (m.sensor = .running) && m.watch.due s.clock && decide (m.port ≠ .reading) then
    let s := s.setMotion
      { m.clearMeasure with sensor := .lost, watch := .idle, retry := .after s.clock Config.retryMs }
    ((s.handOn [.faultCapture (.sensorLost s.clock)]).postSensor).unprime
  else s

/-! ## The measure at an arrival -/

/-- A received axis value, saturated to counts (R88). -/
def saturateAxis (v : Half) : Int := max (-2048) (min v.toInt 2047)

/-- The rounded gravity of one axis (R95). -/
def rounded (g : Int) : Int := (g + 128) / 256

/-- The window W of a window exponent (R98). -/
def windowOf (exponent : Nat) : Nat := 2 ^ exponent

/-- The gravity estimate of one axis after an arrival (R96). -/
def gravityStep (k : Nat) (g a : Int) : Int := g + (256 * a - g) / (2 : Int) ^ k

/-- What one arrival detects (R103). -/
structure Detections where
  peak : Nat
  shock : Bool
  freefall : Bool
  endOfPriming : Bool
  tiltEntry : Bool
  tiltExit : Bool
  deriving DecidableEq, Repr

/-- The tilt state after the test on the rounded updated gravity (R102). -/
def tiltTest (t : Tilt) (limit : Nat) (gx gy gz : Int) : Tilt :=
  let hx := rounded gx
  let hy := rounded gy
  let hz := rounded gz
  let q := hx * hx + hy * hy + hz * hz
  match t with
  | .level => if hz ≤ 0 ∨ 256 * (hz * hz) < (limit : Int) * q then .tilted else .level
  | .tilted => if 0 < hz ∧ (min (limit + 8) 256 : Nat) * q ≤ 256 * (hz * hz) then .level else .tilted

/-- The sum of the activities of the newest `n` ring entries. -/
def activitySum (ring : List Sample) (n : Nat) : Nat := ((ring.take n).map (·.activity)).sum

/-- The activity that leaves the window at an arrival (R98). -/
def Motion.leaving (m : Motion) (w : Nat) : Nat :=
  if w ≤ m.runLength then ((m.ring[w - 1]?).map (·.activity)).getD 0 else 0

/-- The sampling side of one arrival: gravity, ring, window sum, priming, shock, freefall and tilt, each step on the
values the steps before it left (R95 to R102). -/
def Motion.measure (m : Motion) (ax ay az : Int) : Motion × Detections :=
  let seeds := decide (m.runLength = 0)
  let vx := ax - rounded m.gx
  let vy := ay - rounded m.gy
  let vz := az - rounded m.gz
  let activity := if seeds then 0 else vx.natAbs + vy.natAbs + vz.natAbs
  let peak := if seeds then 0 else max vx.natAbs (max vy.natAbs vz.natAbs)
  let magnitude := ax.natAbs + ay.natAbs + az.natAbs
  let k := m.settings.gravityShift
  let gx := if seeds then 256 * ax else gravityStep k m.gx ax
  let gy := if seeds then 256 * ay else gravityStep k m.gy ay
  let gz := if seeds then 256 * az else gravityStep k m.gz az
  let w := windowOf m.settings.windowExponent
  let sum := m.sum + activity - m.leaving w
  let entry : Sample := { number := m.sampleCounter, x := ax, y := ay, z := az, activity := activity }
  let priming := min w (m.priming + 1)
  let ends := decide (m.priming < w) && decide (priming = w)
  let run := if magnitude < 16 * m.settings.freefallCode then min 64 (m.freefallRun + 1) else 0
  let reported := if magnitude < 16 * m.settings.freefallCode then m.freefallReported else false
  let freefall := decide (m.settings.freefallCount ≤ run) && !reported
  let tilt := tiltTest m.tilt m.settings.tiltLimit gx gy gz
  ({ m with
      gx := gx, gy := gy, gz := gz
      ring := (entry :: m.ring).take Config.ringPlaces
      sampleCounter := m.sampleCounter + 1
      runLength := min Config.ringPlaces (m.runLength + 1)
      sum := sum
      level := sum / w
      priming := priming
      primed := m.primed || ends
      freefallRun := run
      freefallReported := reported || freefall
      tilt := tilt },
   { peak := peak
     shock := decide (16 * m.settings.shockCode ≤ peak)
     freefall := freefall
     endOfPriming := ends
     tiltEntry := decide (m.tilt = .level) && decide (tilt = .tilted)
     tiltExit := decide (m.tilt = .tilted) && decide (tilt = .level) })

/-! ## Class, quiet timer, episodes -/

/-- The class from L alone (R111). -/
def MotionSettings.classOf (t : MotionSettings) (level : Nat) : MotionClass :=
  if t.roughOn ≤ level then .rough else if t.rollOn ≤ level then .rolling else .still

/-- The class from L and the class held before, with hysteresis (R110). -/
def MotionSettings.classFrom (t : MotionSettings) (before : MotionClass) (level : Nat) : MotionClass :=
  match before with
  | .unprimed => t.classOf level
  | .still => t.classOf level
  | .rolling =>
    if t.roughOn ≤ level then .rough else if t.rollOn - t.hysteresis ≤ level then .rolling else .still
  | .rough =>
    if t.roughOn - t.hysteresis ≤ level then .rough
    else if t.rollOn - t.hysteresis ≤ level then .rolling else .still

/-- The class after an arrival (R110, R111, R112), from the measured values `m` whose `cls` is the class before. -/
def Motion.classAfter (m : Motion) (d : Detections) : MotionClass :=
  if !m.primed then m.cls
  else if d.shock || d.freefall then .rough
  else if d.endOfPriming then m.settings.classOf m.level
  else m.settings.classFrom m.cls m.level

/-- A class rise (6.1). -/
def classRises : MotionClass → MotionClass → Bool
  | .unprimed, .still | .unprimed, .rolling | .unprimed, .rough => true
  | .still, .rolling | .still, .rough | .rolling, .rough => true
  | .unprimed, .unprimed | .still, .unprimed | .still, .still | .rolling, .unprimed | .rolling, .still
  | .rolling, .rolling | .rough, .unprimed | .rough, .still | .rough, .rolling | .rough, .rough => false

/-- The open episode: the head of the list while it has no duration (6.4). -/
def Motion.openEpisode (m : Motion) : Option Episode :=
  match m.episodes with
  | [] => none
  | e :: _ => if e.duration.isNone then some e else none

/-- Change the open episode. -/
def Motion.mapOpen (m : Motion) (f : Episode → Episode) : Motion :=
  match m.episodes with
  | [] => m
  | e :: es => if e.duration.isNone then { m with episodes := f e :: es } else m

/-- A new episode at the head of the list, the oldest of eight dropped (R120, R123). -/
def Motion.openNew (m : Motion) (now : Clock) (d : Detections) : Motion :=
  { m with
    sequence := m.sequence + 1
    episodes :=
      { sequence := m.sequence + 1, start := now, shock := d.shock, freefall := d.freefall, peak := d.peak,
        duration := none, unloaded := 0, stranded := 0 } :: m.episodes.take (Config.episodePlaces - 1) }

/-- The episode work of an arrival: open, extend, raise the peak (R120, R121). -/
def Motion.episodeWork (m : Motion) (now : Clock) (d : Detections) : Motion :=
  match m.openEpisode with
  | some _ =>
    m.mapOpen fun e =>
      { e with shock := e.shock || d.shock, freefall := e.freefall || d.freefall, peak := max e.peak d.peak }
  | none => if d.shock || d.freefall then m.openNew now d else m

/-- The multiplier of a restart at `now` (R118). -/
def Motion.restartMultiplier (m : Motion) (now : Clock) : Nat :=
  min 4 (1 + (m.episodes.filter fun e => decide (since now e.start ≤ m.settings.escalationSpan * 1000)).length)

/-- A restart of the quiet timer (R116, R118). -/
def Motion.restartQuiet (m : Motion) (now : Clock) : Motion :=
  { m with
    quiet := .running (later now (m.settings.quietBase * 100 * m.restartMultiplier now))
    multiplier := m.restartMultiplier now }

/-- A cause of R116 holds at an arrival: class before and after, detections, tilt state after. -/
def restartCause (before after : MotionClass) (d : Detections) (tilt : Tilt) : Bool :=
  classRises before after || d.shock || d.freefall || d.tiltEntry || tilt.isTilted || decide (after = .rough)

/-- The class side of one arrival, in the order of R125, steps 1 to 3. -/
def Motion.judge (m : Motion) (now : Clock) (d : Detections) : Motion :=
  let after := m.classAfter d
  let m' := { m with cls := after }.episodeWork now d
  if restartCause m.cls after d m.tilt then m'.restartQuiet now else m'

/-- The sequence of the open episode as a payload field, 0 when none is open. -/
def Motion.openSequence (m : Motion) : Half := (m.openEpisode.map (·.sequence)).getD 0

/-- The notices of an arrival, in the order of R125, step 4: SHOCK, FREEFALL, MOTION, TILT. -/
def State.postArrival (s : State) (d : Detections) (before : MotionClass) : State :=
  let m := s.motion
  let s := if d.shock then s.post .shock (payloadOf (BitVec.ofNat 16 d.peak) m.openSequence) else s
  let s := if d.freefall then s.post .freefall (payloadOf m.openSequence 0) else s
  let s := if before = m.cls then s else
    s.post .motion
      { b0 := packed (classCode m.cls), b1 := (BitVec.ofNat 16 m.level).extractLsb' 0 8,
        b2 := (BitVec.ofNat 16 m.level).extractLsb' 8 8, b3 := 0 }
  if d.tiltEntry || d.tiltExit then s.post .tilt { b0 := packed m.tilt.isTilted.toNat, b1 := 0, b2 := 0, b3 := 0 } else s

/-- Hand what changed of class, tilt and quiet timer to the policy (R125 step 5, R132). Log entry 18. -/
def State.handVerdict (s : State) (cls : Option MotionClass) (tilt : Option Tilt) (quiet : Option Bool) : State :=
  if cls.isSome || tilt.isSome || quiet.isSome then s.handOn [.motionVerdictHandoff cls tilt quiet] else s

/-- One arrival (R91, R95 to R103, R110 to R125). Without a read in progress there is no arrival. -/
def takeArrival (x y z : Half) (s : State) : State :=
  let m := s.motion
  if decide (m.sensor = .running) && decide (m.port = .reading) then
    let r := { m with port := .idle }.measure (saturateAxis x) (saturateAxis y) (saturateAxis z)
    let d := r.2
    let m' := r.1.judge s.clock d
    ((s.setMotion m').postArrival d m.cls).handVerdict
      (if m'.cls = m.cls then none else some m'.cls)
      (if d.tiltEntry || d.tiltExit then some m'.tilt else none)
      (if m.quiet = .quiet ∧ m'.quiet ≠ .quiet then some false else none)
  else s

/-- A quiet timer that runs has reached its expiry (R119). -/
def QuietTimer.due (now : Clock) : QuietTimer → Bool
  | .quiet => false
  | .runningUnset => false
  | .running e => reached now e

/-- A duration as the EPISODE notice carries it, saturated at 65535 (R196). -/
def saturate16 (n : Nat) : Half := BitVec.ofNat 16 (min n 65535)

/-- The open episode closes: its duration is set and the EPISODE notice posted (R122). -/
def State.closeEpisode (s : State) : State :=
  match s.motion.openEpisode with
  | none => s
  | some e =>
    (s.setMotion (s.motion.mapOpen fun e => { e with duration := some (s.clock - e.start) })).post .episode
      (payloadOf e.sequence (saturate16 (since s.clock e.start)))

/-- The quiet timer reaches its expiry: QUIET, the open episode closes, QUIET is handed on (R119). -/
def takeQuietExpiry (s : State) : State :=
  if s.motion.quiet.due s.clock then
    ((s.setMotion { s.motion with quiet := .quiet }).closeEpisode).handVerdict none none (some true)
  else s

/-- A restart request of the policy (R117). -/
def takeQuietRestart (s : State) : State :=
  (s.setMotion (s.motion.restartQuiet s.clock)).handVerdict none none
    (if s.motion.quiet = .quiet then some false else none)

/-- An unload report (R64, R124): counted in the open episode, or dropped. -/
def takeUnloadReport (s : State) : State :=
  s.setMotion (s.motion.mapOpen fun e => { e with unloaded := min 255 (e.unloaded + 1) })

/-- A stranding report (R65, R124): counted in the open episode, or dropped. -/
def takeStrandingReport (s : State) : State :=
  s.setMotion (s.motion.mapOpen fun e => { e with stranded := min 255 (e.stranded + 1) })

/-! ## MOTION_SETUP -/

/-- The settings stored, with a changed window acting at once: S from the ring, a new priming (R104, R105, R106). -/
def Motion.withSettings (m : Motion) (t : MotionSettings) : Motion :=
  if t.windowExponent = m.settings.windowExponent then { m with settings := t }
  else
    { m with
      settings := t
      sum := activitySum m.ring (min (windowOf t.windowExponent) m.runLength)
      priming := 0
      primed := false }

/-- What an accepted MOTION_SETUP does: a window change makes the class UNPRIMED (R104, R113). -/
def State.motionSetup (s : State) (t : MotionSettings) : State :=
  let changed := decide (t.windowExponent ≠ s.motion.settings.windowExponent)
  let s := s.setMotion (s.motion.withSettings t)
  if changed then s.unprime else s

/-! ## Commands -/

/-- DRDY_EDGE. -/
def execDrdyEdge (s : State) : Host.Outcome State Fault Refusal := s.event .drdyEdge takeDrdy

/-- IDENTITY_READ_COMPLETE. -/
def execIdentityReadComplete (id : Byte) (s : State) : Host.Outcome State Fault Refusal :=
  s.event (.identityReadComplete id) (takeIdentity id)

/-- SETUP_WINDOW_EXPIRY. -/
def execSetupWindowExpiry (s : State) : Host.Outcome State Fault Refusal := s.event .setupWindowExpiry takeWindowExpiry

/-- RETRY_TIMER_EXPIRY. -/
def execRetryTimerExpiry (s : State) : Host.Outcome State Fault Refusal := s.event .retryTimerExpiry takeRetryExpiry

/-- DRDY_WATCH_EXPIRY. -/
def execDrdyWatchExpiry (s : State) : Host.Outcome State Fault Refusal := s.event .drdyWatchExpiry takeWatchExpiry

/-- SAMPLE_ARRIVAL. -/
def execSampleArrival (x y z : Half) (s : State) : Host.Outcome State Fault Refusal :=
  s.event (.sampleArrival x y z) (takeArrival x y z)

/-- QUIET_TIMER_EXPIRY. -/
def execQuietTimerExpiry (s : State) : Host.Outcome State Fault Refusal := s.event .quietTimerExpiry takeQuietExpiry

/-- QUIET_RESTART_REQUEST. -/
def execQuietRestartRequest (s : State) : Host.Outcome State Fault Refusal :=
  s.event .quietRestartRequest takeQuietRestart

/-- UNLOAD_REPORT. -/
def execUnloadReport (b : BayId) (s : State) : Host.Outcome State Fault Refusal :=
  s.event (.unloadReport b) takeUnloadReport

/-- STRANDING_REPORT. -/
def execStrandingReport (b : BayId) (s : State) : Host.Outcome State Fault Refusal :=
  s.event (.strandingReport b) takeStrandingReport

end Sys2Proof.Machine
end

