-- ==== Sys2Proof/Machine/SupplyMonitor.lean ====
section
/-! DEFINITION. The Supply Monitor's sample (R154 to R160). -/

namespace Sys2Proof.Machine

/-- The warn level, in 10 mV (R155). -/
def Supply.warnLevel (m : Supply) : Nat := 1060 + 10 * m.warnIndex

/-- The cutoff level, in 10 mV (R155). -/
def Supply.cutoffLevel (m : Supply) : Nat := 900 + 10 * m.cutoffIndex

/-- The reading that a rail voltage gives, 0..1600 (R154). -/
def railReading (rail : Int) : Nat := min 1600 rail.toNat

/-- The reading stored and the dwell counts updated (R154, R156). -/
def Supply.withReading (m : Supply) (reading : Nat) : Supply :=
  { m with
    reading := reading
    warnDwell := if reading < m.warnLevel then min 10 (m.warnDwell + 1) else 0
    cutoffDwell := if reading < m.cutoffLevel then min 3 (m.cutoffDwell + 1) else 0 }

/-- The supply state after a sample, from the state before it and the dwell counts and reading after it (R157); from
NONE it is taken from the reading alone (R158). -/
def Supply.nextState (m : Supply) : SupplyState :=
  match m.state with
  | .none =>
    if m.reading < m.cutoffLevel then .critical else if m.reading < m.warnLevel then .low else .normal
  | .normal => if m.cutoffDwell = 3 then .critical else if m.warnDwell = 10 then .low else .normal
  | .low =>
    if m.cutoffDwell = 3 then .critical
    else if m.warnLevel + Config.supplyHysteresis ≤ m.reading then .normal else .low
  | .critical =>
    if m.warnLevel + Config.supplyHysteresis ≤ m.reading then .normal
    else if m.cutoffLevel + Config.supplyHysteresis ≤ m.reading then .low else .critical

/-- The supply state taken, with its entry time when it changes (R157, R158). -/
def Supply.withState (m : Supply) (now : Clock) : Supply :=
  if m.nextState = m.state then m else { m with state := m.nextState, entryTime := now }

/-- The source that an SRC level stands for (R160). -/
def sourceOf (srcHigh : Bool) : Source := if srcHigh then .mains else .battery

/-- The debounced source after an SRC sample: it changes at the third consecutive sample that differs (R160). -/
def Supply.withSource (m : Supply) (srcHigh : Bool) : Supply :=
  if sourceOf srcHigh = m.source then { m with agree := 0 }
  else if m.agree < 2 then { m with agree := m.agree + 1 }
  else { m with agree := 0, source := sourceOf srcHigh }

/-- The whole of one sample on the Supply Monitor's own state, in the order of R154. -/
def Supply.sampled (m : Supply) (now : Clock) (rail : Int) (srcHigh : Bool) : Supply :=
  ((m.withReading (railReading rail)).withState now).withSource srcHigh

/-- The SUPPLY notice's payload (R159, R196). -/
def Supply.payload (m : Supply) : NoticePayload where
  b0 := packed (supplyCode m.state)
  b1 := packed m.source.isMains.toNat
  b2 := (BitVec.ofNat 16 m.reading).extractLsb' 0 8
  b3 := (BitVec.ofNat 16 m.reading).extractLsb' 8 8

/-- The reports of a sample that took the monitor from `m` to `q`, in the order of R159. -/
def supplyHandoffs (now : Clock) (m q : Supply) : List Instr :=
  (if q.state = .critical ∧ m.state ≠ .critical then [.faultCapture (.supplyCritical now)] else []) ++
  (if q.state = m.state ∧ q.source = m.source then [] else [.noticePost .supply now q.payload]) ++
  (if q.state = m.state then [] else [.supplyStateReport q.state]) ++
  (if q.source = m.source then [] else [.sourceReport q.source])

/-- One sample of VSENSE and SRC (R154). -/
def takeSupplySample (rail : Int) (srcHigh : Bool) (s : State) : State :=
  let q := s.supply.sampled s.clock rail srcHigh
  (s.setSupply q).handOn (supplyHandoffs s.clock s.supply q)

/-- SUPPLY_SAMPLE. -/
def execSupplySample (rail : Int) (srcHigh : Bool) (s : State) : Host.Outcome State Fault Refusal :=
  s.event (.supplySample rail srcHigh) (takeSupplySample rail srcHigh)

end Sys2Proof.Machine
end

