-- ==== Sys2Proof/Machine/Requests.lean ====
section
/-! DEFINITION. What the owning block does with each request at its dispatch, step 2 of R178, and the reply payload it
gives (R186, R191 to R196). -/

namespace Sys2Proof.Machine

/-- The owning block's answer: the result, whether a field was brought into range, and the reply payload. -/
structure Answer where
  result : Result
  clamped : Bool
  payload : List Byte
  deriving DecidableEq, Repr

/-- An OK answer. -/
def Answer.okay (payload : List Byte) : Answer := { result := .ok, clamped := false, payload := payload }

/-- An answer with another result: no payload, CLAMPED never set (R179, R181). -/
def Answer.refuse (r : Result) : Answer := { result := r, clamped := false, payload := [] }

/-! ## Reset Control -/

/-- IDENT (R186, R191). -/
def workIdent (s : State) : Answer × State :=
  (.okay (le16 Config.vendorCode ++ le16 Config.partCode ++
    [Config.revision, Config.bayCount, causeCode s.cause] ++ le32 s.clock), s)

/-- RESTART: answered OK; the warm restart is made at the end of the reply (R187). -/
def workRestart (s : State) : Answer × State := (.okay [], s)

/-! ## Bay requests -/

/-- The states in which BAY_SETUP is accepted (R2). -/
def setupAllowed (st : BayState) : Bool :=
  decide (st = .vacant) || decide (st = .stopped) || decide (st = .faulted)

/-- The bay after an accepted BAY_SETUP, before any change of state: descriptor stored, touched cleared (R3, R25). -/
def Bay.withDescriptor (x : Bay) (d : Descriptor) : Bay := { x with desc := d, touched := false }

/-- What an accepted BAY_SETUP does to the bay by the access it stores (R3). -/
def State.applyAccess (s : State) (b : BayId) (a : Access) : State :=
  match (s.bay b).state, a with
  | .vacant, .absent => s
  | .vacant, .spinOnly | .vacant, .full => (s.mapBay b fun x => { x with intent := .off }).toStopped b
  | .stopped, .absent | .faulted, .absent => (s.mapBay b (·.enterVacant s.clock)).postBay b
  | .stopped, .spinOnly =>
    s.mapBay b fun x => { x with intent := if x.intent = .fly then .spin else x.intent }
  | .stopped, .full | .faulted, .spinOnly | .faulted, .full => s
  | .queued, _ | .ramping, _ | .settling, _ | .spinning, _ | .loading, _ | .flying, _ | .unloading, _
  | .stopping, _ => s

/-- BAY_SETUP (R1, R2, R3). -/
def workBaySetup (bay : Byte) (r : RawDescriptor) (s : State) : Answer × State :=
  match bayOf bay with
  | none => (.refuse .badBay, s)
  | some b =>
    if setupAllowed (s.bay b).state then
      let d := Descriptor.ofRaw r
      let s := (s.mapBay b (·.withDescriptor d)).applyAccess b d.access
      ({ result := .ok, clamped := decide (d.toRaw ≠ r), payload := bay :: d.toRaw.bytes }, s.policyTable b d)
    else (.refuse .busy, s)

/-- The outcome of an aim for one bay, the first of R7 that applies. -/
def Bay.aimOutcome (x : Bay) (target : Intent) : BayOutcome :=
  if x.state = .vacant then .vacant
  else if x.state = .faulted then .faulted
  else if target = .fly ∧ x.desc.access = .spinOnly then .access
  else if target ≠ .off ∧ x.state = .stopped ∧ x.seated = false then .notSeated
  else if x.intent = target then .same
  else .accepted

/-- What an ACCEPTED aim does at once, intent and priority already set (R8). -/
def State.actOnAim (s : State) (b : BayId) (target : Intent) : State :=
  match (s.bay b).state with
  | .stopped => if target = .off then s else s.joinQueue b
  | .queued => if target = .off then ((s.unqueue b).toStopped b).evaluate else s
  | .ramping | .settling => if target = .off then s.toStopping b else s
  | .spinning =>
    match target with
    | .off => s.toStopping b
    | .spin => s
    | .fly => s.loadTest b
  | .loading | .flying => if target = .fly then s else s.toUnloading b
  | .vacant | .unloading | .stopping | .faulted => s

/-- A priority set on a bay that stays QUEUED and that held another is an evaluation event (R9, R70). -/
def State.priorityChanged (s : State) (b : BayId) (old new : Fin 4) : State :=
  if decide ((s.bay b).state = .queued) && decide (old ≠ new) then s.evaluate else s

/-- An aim for one bay (R7, R8, R9). -/
def State.aimBay (s : State) (b : BayId) (target : Intent) (priority : Fin 4) : BayOutcome × State :=
  let x := s.bay b
  match x.aimOutcome target with
  | .vacant => (.vacant, s)
  | .faulted => (.faulted, s)
  | .access => (.access, s)
  | .notSeated => (.notSeated, s.mapBay b fun x => { x with intent := target, priority := priority })
  | .same =>
    (.same, (s.mapBay b fun x => { x with priority := priority }).priorityChanged b x.priority priority)
  | .accepted =>
    let s := s.mapBay b fun x => { x with intent := target, priority := priority }
    if decide (x.state = .queued) && decide (target ≠ .off) then
      (.accepted, s.priorityChanged b x.priority priority)
    else (.accepted, s.actOnAim b target)

/-- An aim for each bay of a set, in order, with the outcomes (R6). Log entry 6. -/
def aimAll (target : Intent) (priority : Fin 4) : List BayId → State → List BayOutcome × State
  | [], s => ([], s)
  | b :: bs, s =>
    let r := s.aimBay b target priority
    let rest := aimAll target priority bs r.2
    (r.1 :: rest.1, rest.2)

/-- BAY_AIM (R6). -/
def workBayAim (bays : Half) (target priority : Byte) (s : State) : Answer × State :=
  match baysOf bays with
  | none => (.refuse .badBay, s)
  | some bs =>
    let r := aimAll (targetOf target) (priorityOf priority) bs s
    ({ result := .ok
       clamped := decide (2 < target.toNat) || decide (3 < priority.toNat)
       payload := le16 bays ++ r.1.map outcomeCode }, r.2)

/-- A clear of one bay (R21). -/
def State.clearBay (s : State) (b : BayId) : BayOutcome × State :=
  if (s.bay b).state = .faulted then (.accepted, s.toStopped b) else (.same, s)

/-- A clear of each bay of a set, in order, with the outcomes (R21). -/
def clearAll : List BayId → State → List BayOutcome × State
  | [], s => ([], s)
  | b :: bs, s =>
    let r := s.clearBay b
    let rest := clearAll bs r.2
    (r.1 :: rest.1, rest.2)

/-- BAY_CLEAR (R21). -/
def workBayClear (bays : Half) (s : State) : Answer × State :=
  match baysOf bays with
  | none => (.refuse .badBay, s)
  | some bs =>
    let r := clearAll bs s
    (.okay (le16 bays ++ r.1.map outcomeCode), r.2)

/-- The BAY_QUERY record of a bay (R27, R192). -/
def State.bayRecord (s : State) (b : BayId) : List Byte :=
  let x := s.bay b
  [BitVec.ofNat 8 b.val, stateCode x.state, intentCode x.intent, BitVec.ofNat 8 x.priority.val, accessCode x.desc.access,
   packed (x.seated.toNat + x.touched.toNat * 2 + x.stopMark.toNat * 4 + x.hld.toNat * 8 + x.prkLevel.toNat * 16),
   reasonCode? x.reason, reasonCode? (x.mark.map (·.reason)), BitVec.ofNat 8 x.duty] ++
  le16 (BitVec.ofNat 16 x.lastTach) ++ [BitVec.ofNat 8 x.inBand, s.heldReasons b] ++ le32 (s.clock - x.entryTime)

/-- BAY_QUERY (R27). -/
def workBayQuery (bay : Byte) (s : State) : Answer × State :=
  match bayOf bay with
  | none => (.refuse .badBay, s)
  | some b => (.okay (s.bayRecord b), s)

/-- BAY_DESCRIBE (R4). -/
def workBayDescribe (bay : Byte) (s : State) : Answer × State :=
  match bayOf bay with
  | none => (.refuse .badBay, s)
  | some b => (.okay (bay :: (s.bay b).desc.toRaw.bytes), s)

/-! ## Motion requests -/

/-- MOTION_SETUP (R104, R106, R127). -/
def workMotionSetup (r : RawMotion) (s : State) : Answer × State :=
  let t := MotionSettings.ofRaw r
  ({ result := .ok, clamped := decide (t.toRaw ≠ r), payload := t.toRaw.bytes }, s.motionSetup t)

/-- Milliseconds to the quiet timer's expiry, 65535 when QUIET or unset (R129, R194). -/
def quietRemaining (now : Clock) : QuietTimer → Half
  | .quiet => 65535
  | .runningUnset => 65535
  | .running e => BitVec.ofNat 16 (remaining now e)

/-- The MOTION_QUERY record (R129, R194). -/
def State.motionRecord (s : State) : List Byte :=
  let m := s.motion
  [packed (sensorCode m.sensor + classCode m.cls * 4 + m.primed.toNat * 16 + m.tilt.isTilted.toNat * 32 +
      (decide (m.quiet = .quiet)).toNat * 64 + m.openEpisode.isSome.toNat * 128),
   BitVec.ofNat 8 m.priming, BitVec.ofNat 8 (windowOf m.settings.windowExponent)] ++
  (le32 (BitVec.ofNat 32 m.sum)).take 3 ++ le16 (BitVec.ofNat 16 m.level) ++
  le16 (BitVec.ofInt 16 (rounded m.gx)) ++ le16 (BitVec.ofInt 16 (rounded m.gy)) ++
  le16 (BitVec.ofInt 16 (rounded m.gz)) ++ [BitVec.ofNat 8 m.freefallRun] ++ le16 (quietRemaining s.clock m.quiet) ++
  [BitVec.ofNat 8 m.multiplier] ++ le16 m.openSequence ++ [BitVec.ofNat 8 m.episodes.length] ++ le16 m.sampleCounter ++
  [BitVec.ofNat 8 m.ring.length] ++ m.settings.toRaw.bytes

/-- MOTION_QUERY (R129). -/
def workMotionQuery (s : State) : Answer × State := (.okay s.motionRecord, s)

/-- One TRACE entry: sample number, and a 56-bit value of ax, ay, az, activity and offset (R194). -/
def traceEntry (offset : Nat) (e : Sample) : List Byte :=
  let v : BitVec 56 :=
    BitVec.ofNat 6 offset ++ BitVec.ofNat 14 e.activity ++ BitVec.ofInt 12 e.z ++ BitVec.ofInt 12 e.y ++ BitVec.ofInt 12 e.x
  le16 e.number ++
  [v.extractLsb' 0 8, v.extractLsb' 8 8, v.extractLsb' 16 8, v.extractLsb' 24 8, v.extractLsb' 32 8, v.extractLsb' 40 8,
   v.extractLsb' 48 8]

/-- The offsets that TRACE returns: back, back + stride, and so on, modulo the filled count (R107). -/
def traceOffsets (filled back count stride : Nat) : List Nat :=
  (List.range count).map fun i => (back + i * stride) % filled

/-- The entry of the ring at an offset, as TRACE carries it. -/
def traceAt (ring : List Sample) (offset : Nat) : List Byte :=
  match ring[offset]? with
  | none => []
  | some e => traceEntry offset e

/-- The sample number of the newest entry, 0 with the ring empty (R194). -/
def newestNumber (ring : List Sample) : Half :=
  match ring with
  | [] => 0
  | e :: _ => e.number

/-- TRACE (R107, R194). -/
def workTrace (back count stride : Byte) (s : State) : Answer × State :=
  let ring := s.motion.ring
  let f := traceFields ring.length back count stride
  ({ result := .ok
     clamped := traceChanged ring.length back count stride
     payload := [BitVec.ofNat 8 ring.length] ++ le16 (newestNumber ring) ++
       [BitVec.ofNat 8 f.1, packed (f.2.1 + f.2.2 * 16)] ++
       ((traceOffsets ring.length f.1 f.2.1 f.2.2).map (traceAt ring)).flatten }, s)

/-- One EPISODES record (R194). -/
def episodeRecord (e : Episode) : List Byte :=
  le16 e.sequence ++ le32 e.start ++
  le16 (BitVec.ofNat 16 (e.peak + e.shock.toNat * 4096 + e.freefall.toNat * 8192 + e.duration.isNone.toNat * 16384)) ++
  le32 (e.duration.getD 0) ++ [BitVec.ofNat 8 e.unloaded, BitVec.ofNat 8 e.stranded]

/-- EPISODES (R126, R194). -/
def workEpisodes (first count : Byte) (s : State) : Answer × State :=
  let l := s.motion.episodes
  let f := episodeFields l.length first count
  ({ result := .ok
     clamped := episodesChanged l.length first count
     payload := [packed (l.length + f.1 * 16)] ++ le16 s.motion.sequence ++
       (((l.drop f.1).take f.2).map episodeRecord).flatten }, s)

/-! ## Power requests -/

/-- POWER_SETUP (R85, R161). -/
def workPowerSetup (r : RawPower) (s : State) : Answer × State :=
  let s := (s.setArbiter (s.arbiter.withSettings r)).setSupply (s.supply.withSettings r)
  let stored := powerRecord s.arbiter s.supply
  ({ result := .ok, clamped := decide (stored ≠ r), payload := stored.bytes }, s.evaluate)

/-- Milliseconds left on the spacing timer: 0 when idle (R193), from 1 while it runs (R86), so 1 once its expiry has been
reached and not yet been taken. Log entry 29. -/
def spacingRemaining (now : Clock) : Timer → Half
  | .idle => 0
  | .running e => BitVec.ofNat 16 (max 1 (remaining now e))

/-- The candidate's bay number, 255 for none (R193). -/
def candidateByte : Option BayId → Byte
  | none => 255
  | some b => BitVec.ofNat 8 b.val

/-- Whether the candidate fits; without a candidate the bit is a free value (R86). Log entry 8. -/
def State.fitsBit (s : State) : Bool :=
  match s.candidate with
  | none => Config.candidateFitsWithNone s.drawn
  | some b => s.fits b

/-- The arbiter part of the POWER_QUERY record after its first byte, up to offset 29 (R86, R193). -/
def State.arbiterRecord (s : State) : List Byte :=
  let a := s.arbiter
  [BitVec.ofNat 8 a.spacing, BitVec.ofNat 8 a.mainsBudget, BitVec.ofNat 8 a.batteryBudget, BitVec.ofNat 8 a.budget] ++
  le16 (BitVec.ofNat 16 a.committed) ++ le16 (spacingRemaining s.clock a.spacingTimer) ++
  [candidateByte s.candidate,
   packed ((a.pointer 0).val + (a.pointer 1).val * 16), packed ((a.pointer 2).val + (a.pointer 3).val * 16)] ++
  (bayIds.map fun b => BitVec.ofNat 8 (atBay a.charges b)) ++
  le16 (baySet s.heldOversize) ++ le16 (baySet s.heldSpacing) ++ le16 (baySet s.heldBudget)

/-- Time in the supply state, 0 in NONE (R162). -/
def Supply.timeIn (m : Supply) (now : Clock) : Clock := if m.state = .none then 0 else now - m.entryTime

/-- The supply part of the POWER_QUERY record, offsets 30 to 42 (R162, R193). -/
def State.supplyRecord (s : State) : List Byte :=
  let m := s.supply
  [packed (supplyCode m.state + m.source.isMains.toNat * 4 + m.agree * 8)] ++ le32 (m.timeIn s.clock) ++
  le16 (BitVec.ofNat 16 m.reading) ++ [packed (m.warnIndex + m.cutoffIndex * 16)] ++
  le16 (BitVec.ofNat 16 m.warnLevel) ++ le16 (BitVec.ofNat 16 m.cutoffLevel) ++
  [packed (m.warnDwell + m.cutoffDwell * 16)]

/-- The first byte of the POWER_QUERY record, with bit 5 given (R193). -/
def State.powerFirst (s : State) (fits : Bool) : Byte :=
  let a := s.arbiter
  packed (modeCode a.mode + a.source.isMains.toNat * 2 + (decide (a.budget < a.committed)).toNat * 4 +
    a.gateOpen.toNat * 8 + (decide (a.spacingTimer ≠ .idle)).toNat * 16 + fits.toNat * 32)

/-- The queue part of the POWER_QUERY record, from offset 43 (R193). -/
def State.queueRecord (s : State) : List Byte :=
  BitVec.ofNat 8 s.arbiter.queue.length ::
    s.arbiter.queue.map fun b => packed (b.val + (s.bay b).priority.val * 16)

/-- POWER_QUERY (R86, R162). Without a candidate it draws a free value. -/
def workPowerQuery (s : State) : Answer × State :=
  (.okay (s.powerFirst s.fitsBit :: (s.arbiterRecord ++ s.supplyRecord ++ s.queueRecord)),
   if s.candidate.isNone then s.drawFree else s)

/-! ## Case requests -/

/-- CASE_SETUP (R145, R150). -/
def workCaseSetup (r : RawCase) (s : State) : Answer × State :=
  let s := s.caseSetup r
  ({ result := .ok, clamped := decide (caseInRange r ≠ r), payload := (caseRecord s.policy).bytes }, s)

/-- Milliseconds to the supervision expiry, 65535 for none (R151, R196). -/
def supervisionRemaining (now : Clock) : Supervision → Half
  | .off => 65535
  | .active e => BitVec.ofNat 16 (remaining now e)
  | .lapsed => 65535

/-- The CASE_QUERY record (R151, R196). -/
def State.caseStatus (s : State) : List Byte :=
  let p := s.policy
  [packed (inputModeCode p.handleMode + inputModeCode p.lidMode * 4 + p.handleState.toNat * 16 + p.lidState.toNat * 32),
   BitVec.ofNat 8 p.period,
   packed (actionCode p.action + supervisionCode p.supervision * 2 + p.gateOpen.toNat * 8 + p.stopStanding.toNat * 16)] ++
  le16 (supervisionRemaining s.clock p.supervision) ++
  [packed (classCode p.classSeen + p.tiltSeen.isTilted.toNat * 4 + p.quietSeen.toNat * 8 + supplyCode p.supplySeen * 16),
   p.closingCauses] ++
  le16 (baySet (atBay p.loadPermission)) ++ le16 (baySet (atBay p.flightPermission))

/-- CASE_QUERY (R151). -/
def workCaseQuery (s : State) : Answer × State := (.okay s.caseStatus, s)

/-! ## Notice and fault requests -/

/-- NOTICE_MASK (R204): the echo carries bits 11 to 15 as 0. -/
def workNoticeMask (mask : Half) (s : State) : Answer × State :=
  let s := s.setNotices (s.notices.remasked mask)
  (.okay (le16 (s.notices.mask.setWidth 16)), s)

/-- A notice entry as NOTICE_FETCH returns it (R196). -/
def noticeBytes (e : Notice) : List Byte :=
  [BitVec.ofNat 8 e.key.number, packed e.key.urgent.toNat, BitVec.ofNat 8 e.count] ++ le32 e.time ++
  [e.payload.b0, e.payload.b1, e.payload.b2, e.payload.b3]

/-- NOTICE_FETCH (R202). -/
def workNoticeFetch (s : State) : Answer × State :=
  let f := s.notices.fetched
  match f.1 with
  | none => (.okay [], s)
  | some e => (.okay (noticeBytes e), s.setNotices f.2)

/-- The pending keys as a set of bits, bit k for key k (R203). -/
def pendingSet (l : List Notice) : Clock := l.foldl (fun acc e => acc ||| BitVec.ofNat 32 (2 ^ e.key.number)) 0

/-- NOTICE_STATUS (R203, R196). -/
def workNoticeStatus (s : State) : Answer × State :=
  (.okay ([BitVec.ofNat 8 s.notices.queue.length] ++ (le32 (pendingSet s.notices.pending)).take 3 ++
    le16 (s.notices.mask.setWidth 16)), s)

/-- A captured fault as FAULT_READ returns it, with the more flag (R196, R209). -/
def captureBytes (c : Capture) (more : Bool) : List Byte :=
  match c with
  | .bay _ _ found time tach prk =>
    [1, packed more.toNat, c.reasonCode, c.sourceCode, stateCode found] ++ le32 time ++ le16 (BitVec.ofNat 16 tach) ++
      [packed prk.toNat]
  | .sensorLost time | .supplyCritical time =>
    [1, packed more.toNat, c.reasonCode, c.sourceCode, 255] ++ le32 time ++ le16 0 ++ [255]

/-- FAULT_READ (R209). -/
def workFaultRead (s : State) : Answer × State :=
  match s.faults.record with
  | none => (.okay (List.replicate 12 0), s)
  | some c => (.okay (captureBytes c s.faults.more), s.setFaults { record := none, more := false })

/-- The owning block carries out a request (R178 step 2, R185). -/
def carryOut : Request → State → Answer × State
  | .ident => workIdent
  | .restart => workRestart
  | .baySetup bay d => workBaySetup bay d
  | .bayAim bays target priority => workBayAim bays target priority
  | .bayClear bays => workBayClear bays
  | .bayQuery bay => workBayQuery bay
  | .bayDescribe bay => workBayDescribe bay
  | .motionSetup r => workMotionSetup r
  | .motionQuery => workMotionQuery
  | .trace back count stride => workTrace back count stride
  | .episodes first count => workEpisodes first count
  | .powerSetup r => workPowerSetup r
  | .powerQuery => workPowerQuery
  | .caseSetup r => workCaseSetup r
  | .caseQuery => workCaseQuery
  | .noticeMask mask => workNoticeMask mask
  | .noticeFetch => workNoticeFetch
  | .noticeStatus => workNoticeStatus
  | .faultRead => workFaultRead

end Sys2Proof.Machine
end

