-- ==== Sys2Proof/Machine/SerialLine.lean ====
section
/-! DEFINITION. The serial line (R166, R167): a character as the levels of its ten bits, the level of TXD through a reply
and at rest, the character that levels sampled on RXD make, and when the receiver looks for a start bit. Where in a reply
TXD stands is no state of the model (log entry 15): its level is given for every place in it. -/

namespace Sys2Proof.Machine

/-- The levels of a character, true for high: a start bit, eight data bits, least significant first, no parity, and the
stop bit (R166). -/
def characterLevels (c : Byte) (stopHigh : Bool) : List Bool :=
  false :: (List.range 8).map (fun i => c.getLsbD i) ++ [stopHigh]

/-- The byte that eight data bits make, the first the least significant (R166). -/
def byteOfData (bits : List Bool) : Byte := BitVec.ofNat 8 (bits.foldr (fun bit n => bit.toNat + 2 * n) 0)

/-- The reception that ten levels on RXD make, each sampled at its bit's middle: data bits and stop bit as sampled
(R167). -/
def receptionOf (levels : List Bool) : Instr :=
  .characterReception (byteOfData ((levels.drop 1).take 8)) (levels.getD 9 true)

/-- The levels that the transmitter sends, bit by bit: its characters back to back, each with a high stop bit (R166,
R175); none while it is idle. -/
def Transmitter.levels : Transmitter → List Bool
  | .idle => []
  | .sending frame _ => frame.flatMap fun c => characterLevels c true

/-- The level of TXD, `place` bits into what the transmitter sends: high past its end, high whenever the transmitter is
idle (R166, R167), and held high in reset and in a start-up interval (R165, R183). -/
def State.txdHigh (s : State) (place : Nat) : Bool :=
  if s.operating then s.link.tx.levels.getD place true else true

/-- The receiver looks for a start bit: it does not wait for RXD to be high, or RXD is high (R167). Log entry 30. -/
def State.seeksStart (s : State) : Bool := !s.link.awaitHigh || s.inputs.rxdHigh

end Sys2Proof.Machine
end

