-- ==== Sys2Proof/Machine/LinkPort.lean ====
section
/-! DEFINITION. The Link Port: the receiver (R167 to R174), dispatch, the held slot and overrun (R175 to R178), replies
(R179 to R181), the warm restart at the end of a RESTART reply (R187), and the nineteen requests. -/

namespace Sys2Proof.Machine

/-! ## Dispatch and replies -/

/-- The reply's LEN-counted bytes: KIND, RESULT, FLAGS, payload (R179). -/
def replyBody (kind : Byte) (result : Result) (flags : Byte) (payload : List Byte) : List Byte :=
  [kind, resultCode result, flags] ++ payload

/-- Steps 3 and 4 of a dispatch: the flags byte is taken, the indications in it are cleared, and the transmitter
begins to send the reply's frame (R178, R181). -/
def State.sendReply (s : State) (kind : Byte) (result : Result) (clamped : Bool) (payload : List Byte) (restart : Bool) :
    State :=
  s.setLink
    { s.link with
      overrun := false
      lapseSeen := false
      tx := .sending (Sys2Proof.frame (replyBody kind result (s.flags clamped) payload)) restart }

/-- The dispatch of an answer-due item (R178): the supervision report, the owning block's work, the reply. -/
def State.dispatch (s : State) (item : Item) : State :=
  match item with
  | .request r =>
    let a := carryOut r s.acceptedRequest
    a.2.sendReply (r.kind + 0x80) a.1.result a.1.clamped a.1.payload (decide (r = .restart))
  | .badSize kind => s.acceptedRequest.sendReply (kind + 0x80) .badSize false [] false
  | .linkError code detail => s.sendReply 0xFF code false [detail] false

/-- An answer-due item is made: dispatched when the transmitter is idle, held when the slot is empty, discarded with
the overrun indication when it is full (R175, R176, R177). -/
def State.itemMade (s : State) (item : Item) : State :=
  match s.link.tx with
  | .idle => s.dispatch item
  | .sending _ _ =>
    match s.link.held with
    | none => s.setLink { s.link with held := some item }
    | some _ => s.setLink { s.link with overrun := true }

/-! ## The receiver -/

/-- The receiver returns to HUNT, its buffer empty, the gap timer idle. Log entry 23. -/
def State.hunts (s : State) : State := s.setLink { s.link with rx := .hunt, gap := .idle }

/-- The item that a complete, correct frame makes (R174). -/
def itemOf (kind : Byte) (payload : List Byte) : Item :=
  match judge kind payload with
  | .request r => .request r
  | .badSize => .badSize kind
  | .unknownKind => .linkError .unknownKind kind

/-- The first byte received in BODY, the KIND (R172). -/
def kindOf (got : List Byte) : Byte := got.headD 0

/-- One character, by the receiver's state (R170, R171, R172). -/
def State.receive (s : State) (c : Byte) : State :=
  match s.link.rx with
  | .hunt =>
    if c = Config.sync then s.setLink { s.link with rx := .length, gap := .after s.clock Config.gapMs } else s
  | .length =>
    if decide (1 ≤ c.toNat) && decide (c.toNat ≤ 62) then
      s.setLink { s.link with rx := .body c [] c, gap := .after s.clock Config.gapMs }
    else s.hunts.itemMade (.linkError .lengthError c)
  | .body len got sum =>
    if got.length < len.toNat then
      s.setLink { s.link with rx := .body len (got ++ [c]) (sum + c), gap := .after s.clock Config.gapMs }
    else if sum + c = 0 then s.hunts.itemMade (itemOf (kindOf got) got.tail)
    else s.hunts.itemMade (.linkError .checkError (kindOf got))

/-- The reception of a character; one with a framing error acts like any other, and the receiver then waits for RXD to
be high. While it waits and RXD is low it looks for no start bit, and no character is taken (R167). -/
def takeCharacter (data : Byte) (stopHigh : Bool) (s : State) : State :=
  if s.seeksStart then (s.setLink { s.link with awaitHigh := !stopHigh }).receive data else s

/-- The detail byte of a gap error (R173). -/
def gapDetail : Receiver → Byte
  | .hunt => 0
  | .length => 1
  | .body _ _ _ => 2

/-- The gap timer expires in LENGTH or BODY (R173). -/
def takeGap (s : State) : State :=
  if decide (s.link.rx ≠ .hunt) && s.link.gap.due s.clock then
    s.hunts.itemMade (.linkError .gapError (gapDetail s.link.rx))
  else s

/-! ## End of reply and warm restart -/

/-- The warm restart (R187, R153, R184, R206, R210), the transmitter idle. -/
def State.warmRestart (s : State) : State :=
  let s := s.setLink
    { s.link with rx := .hunt, gap := .idle, tx := .idle, held := none, overrun := false, lapseSeen := false }
  (((s.setNotices .reset).setFaults .reset).setCause .restart).restartSupervision

/-- The end of a reply (R175, R187). With the transmitter idle no reply ends. -/
def takeEndOfReply (s : State) : State :=
  match s.link.tx with
  | .idle => s
  | .sending _ true => s.warmRestart
  | .sending _ false =>
    match s.link.held with
    | none => s.setLink { s.link with tx := .idle }
    | some item => (s.setLink { s.link with tx := .idle, held := none }).dispatch item

/-! ## Link events -/

/-- CHARACTER_RECEPTION. -/
def execCharacterReception (data : Byte) (stopHigh : Bool) (s : State) : Host.Outcome State Fault Refusal :=
  s.event (.characterReception data stopHigh) (takeCharacter data stopHigh)

/-- GAP_ERROR. -/
def execGapError (s : State) : Host.Outcome State Fault Refusal := s.event .gapError takeGap

/-- END_OF_REPLY. -/
def execEndOfReply (s : State) : Host.Outcome State Fault Refusal := s.event .endOfReply takeEndOfReply

/-! ## Requests

A request command is the request's frame, received complete and checked (log entry 14): the item it makes is
dispatched, held or discarded. -/

/-- A request is received complete and checked (R174, R175). -/
def takeRequest (r : Request) (s : State) : State := s.itemMade (.request r)

/-- IDENT. -/
def execIdent (s : State) : Host.Outcome State Fault Refusal := s.event .ident (takeRequest .ident)

/-- RESTART. -/
def execRestart (s : State) : Host.Outcome State Fault Refusal := s.event .restart (takeRequest .restart)

/-- BAY_SETUP. -/
def execBaySetup (bay : Byte) (d : RawDescriptor) (s : State) : Host.Outcome State Fault Refusal :=
  s.event (.baySetup bay d) (takeRequest (.baySetup bay d))

/-- BAY_AIM. -/
def execBayAim (bays : Half) (target priority : Byte) (s : State) : Host.Outcome State Fault Refusal :=
  s.event (.bayAim bays target priority) (takeRequest (.bayAim bays target priority))

/-- BAY_CLEAR. -/
def execBayClear (bays : Half) (s : State) : Host.Outcome State Fault Refusal :=
  s.event (.bayClear bays) (takeRequest (.bayClear bays))

/-- BAY_QUERY. -/
def execBayQuery (bay : Byte) (s : State) : Host.Outcome State Fault Refusal :=
  s.event (.bayQuery bay) (takeRequest (.bayQuery bay))

/-- BAY_DESCRIBE. -/
def execBayDescribe (bay : Byte) (s : State) : Host.Outcome State Fault Refusal :=
  s.event (.bayDescribe bay) (takeRequest (.bayDescribe bay))

/-- MOTION_SETUP. -/
def execMotionSetup (r : RawMotion) (s : State) : Host.Outcome State Fault Refusal :=
  s.event (.motionSetup r) (takeRequest (.motionSetup r))

/-- MOTION_QUERY. -/
def execMotionQuery (s : State) : Host.Outcome State Fault Refusal := s.event .motionQuery (takeRequest .motionQuery)

/-- TRACE. -/
def execTrace (back count stride : Byte) (s : State) : Host.Outcome State Fault Refusal :=
  s.event (.trace back count stride) (takeRequest (.trace back count stride))

/-- EPISODES. -/
def execEpisodes (first count : Byte) (s : State) : Host.Outcome State Fault Refusal :=
  s.event (.episodes first count) (takeRequest (.episodes first count))

/-- POWER_SETUP. -/
def execPowerSetup (r : RawPower) (s : State) : Host.Outcome State Fault Refusal :=
  s.event (.powerSetup r) (takeRequest (.powerSetup r))

/-- POWER_QUERY. -/
def execPowerQuery (s : State) : Host.Outcome State Fault Refusal := s.event .powerQuery (takeRequest .powerQuery)

/-- CASE_SETUP. -/
def execCaseSetup (r : RawCase) (s : State) : Host.Outcome State Fault Refusal :=
  s.event (.caseSetup r) (takeRequest (.caseSetup r))

/-- CASE_QUERY. -/
def execCaseQuery (s : State) : Host.Outcome State Fault Refusal := s.event .caseQuery (takeRequest .caseQuery)

/-- NOTICE_MASK. -/
def execNoticeMask (mask : Half) (s : State) : Host.Outcome State Fault Refusal :=
  s.event (.noticeMask mask) (takeRequest (.noticeMask mask))

/-- NOTICE_FETCH. -/
def execNoticeFetch (s : State) : Host.Outcome State Fault Refusal := s.event .noticeFetch (takeRequest .noticeFetch)

/-- NOTICE_STATUS. -/
def execNoticeStatus (s : State) : Host.Outcome State Fault Refusal := s.event .noticeStatus (takeRequest .noticeStatus)

/-- FAULT_READ. -/
def execFaultRead (s : State) : Host.Outcome State Fault Refusal := s.event .faultRead (takeRequest .faultRead)

end Sys2Proof.Machine
end

