-- ==== Sys2Proof/Machine/ResetControl.lean ====
section
/-! DEFINITION. Reset Control (R165, R182, R183, R184): the full resets, their release, the start-up interval. -/

namespace Sys2Proof

/-- The length of the start-up interval of a reset kind, in ms (R183). -/
def FullReset.startUpMs : FullReset → Nat
  | .powerOn | .brownout => Config.supplyStartUpMs
  | .pin => Config.pinStartUpMs

/-- The cause that a reset kind records (R184). -/
def FullReset.cause : FullReset → ResetCause
  | .powerOn => .powerOn
  | .brownout => .brownout
  | .pin => .pin

end Sys2Proof

namespace Sys2Proof.Machine

/-- The reset that holds the part when a source begins while another holds it: RST# never takes over from a supply
reset, a supply reset takes over from RST#, and POWER_ON stays or becomes POWER_ON (R165, R183). Log entry 12. -/
def mergeReset (holding starting : FullReset) : FullReset :=
  match holding, starting with
  | .powerOn, _ => .powerOn
  | _, .powerOn => .powerOn
  | .brownout, _ => .brownout
  | _, .brownout => .brownout
  | .pin, .pin => .pin

/-- The kind of reset after a source begins (R183): a reset during a start-up interval or later begins anew. -/
def Phase.resetKind (p : Phase) (starting : FullReset) : FullReset :=
  match p with
  | .held k => mergeReset k starting
  | .startUp _ _ => starting
  | .operating => starting

/-- A reset source begins to hold the part: every block takes its full-reset values, and what is in progress is
abandoned (R165, R183). -/
def beginReset (kind : FullReset) (s : State) : State :=
  State.fullReset (.held (s.phase.resetKind kind)) s.cause s.inputs s.drawn s.pending

/-- No source holds the part any longer: the Case Clock starts from 0, the start-up interval begins, the cause is
recorded (R182, R183, R184). -/
def takeResetRelease (s : State) : State :=
  match s.phase with
  | .held k =>
    State.fullReset (.startUp k (BitVec.ofNat 32 k.startUpMs)) k.cause s.inputs s.drawn s.pending
  | .startUp _ _ => s
  | .operating => s

/-- The start-up interval ends: sampling begins and the accelerometer's first SETUP is entered (R89, R183). -/
def takeStartUpEnd (s : State) : State :=
  match s.phase with
  | .held _ => s
  | .startUp _ ends =>
    if reached s.clock ends then
      (s.setPhase .operating).setMotion
        { s.motion with
          sensor := .setup, port := .settingUp, window := .idle, firstSetup := true, setupEntry := s.clock }
    else s
  | .operating => s

/-- POWER_ON. -/
def execPowerOn (s : State) : Host.Outcome State Fault Refusal := .next (beginReset .powerOn s)

/-- BROWNOUT. -/
def execBrownout (s : State) : Host.Outcome State Fault Refusal := .next (beginReset .brownout s)

/-- PIN_RESET. -/
def execPinReset (s : State) : Host.Outcome State Fault Refusal := .next (beginReset .pin s)

/-- RESET_RELEASE. -/
def execResetRelease (s : State) : Host.Outcome State Fault Refusal := .next (takeResetRelease (s.taken .resetRelease))

/-- START_UP_INTERVAL_END. -/
def execStartUpIntervalEnd (s : State) : Host.Outcome State Fault Refusal :=
  .next (takeStartUpEnd (s.taken .startUpIntervalEnd))

end Sys2Proof.Machine
end

