-- ==== Sys2Proof/Machine/Clock.lean ====
section
/-! DEFINITION. One millisecond of the Case Clock (R182): the 1 ms samples of the input pins with their debouncing
(R22, R48, R141, R154), and the events that fall due, handed on for the steps that follow. It is what the part does
when no command waits and nothing is in flight. It also reads RXD for a receiver that waits for it to be high (R167).
Log entries 1, 5, 19, 20, 30. -/

namespace Sys2Proof.Machine

/-! ## Debouncing -/

/-- A debounce count after a sample, and whether the debounced value changes: `need` consecutive samples that differ
from it change it; a sample that equals it sets the count to 0 (R22, R141). -/
def debounce (need count : Nat) (differs : Bool) : Nat × Bool :=
  if differs then (if need ≤ count + 1 then (0, true) else (count + 1, false)) else (0, false)

/-- The SEATn sample of one bay (R22). -/
def Bay.seatSample (x : Bay) (seat : Bool) : Nat × Bool := debounce 3 x.seatCount (seat != x.seated)

/-- The PRKn sample of one bay (R48): a sample that differs from the level and from the sample before it sets the
count to 1, one that agrees with the sample before it adds 1, and the level changes at 2. -/
def Bay.parkSample (x : Bay) (prk : Bool) : Nat × Bool :=
  debounce 2 (if prk = x.prkSample then x.prkAgree else 0) (prk != x.prkLevel)

/-- A bay after the 1 ms samples of its pins; the changes themselves are events of their own. -/
def Bay.sampled (x : Bay) (seat prk : Bool) : Bay :=
  { x with seatCount := (x.seatSample seat).1, prkSample := prk, prkAgree := (x.parkSample prk).1 }

/-- The policy after the 1 ms samples of HANDLE# and LID# (R141). -/
def Policy.sampled (p : Policy) (handle lid : Bool) : Policy :=
  { p with
    handleCount := (debounce 3 p.handleCount (handle != p.handleState)).1
    lidCount := (debounce 3 p.lidCount (lid != p.lidState)).1 }

/-- The receiver's wait for RXD to be high ends when it is (R167). Log entry 30. -/
def Link.sampled (l : Link) (rxdHigh : Bool) : Link := { l with awaitHigh := l.awaitHigh && !rxdHigh }

/-! ## What one millisecond hands on -/

/-- An event handed on when its condition holds. -/
def whenDue (due : Bool) (event : Instr) : List Instr := if due then [event] else []

/-- The pin events of one bay: the PWM boundary that changes SPWRn, the debounced changes, and in UNLOADING the guard
and the completion test after the PRKn sample (R30, R22, R48, R57). -/
def Bay.pinEvents (x : Bay) (b : BayId) (seat prk : Bool) (now : Clock) : List Instr :=
  whenDue (decide (x.duty ≠ x.spwr)) (.pwmPeriodBoundary b) ++
  whenDue (x.seatSample seat).2 (if seat then .reseat b else .unseat b) ++
  whenDue (x.parkSample prk).2 (if prk then .prkAssertion b else .prkRelease b) ++
  whenDue (decide (x.guard ≠ .passed) && x.guard.over now) (.unloadGuardExpiry b) ++
  whenDue (decide (x.state = .unloading)) (.unloadCompletion b)

/-- The timers of one bay that have reached their expiry. -/
def Bay.timerEvents (x : Bay) (b : BayId) (now : Clock) : List Instr :=
  whenDue (x.rampTimer.due now) (.rampStep b) ++
  whenDue (x.spinupTimer.due now) (.spinupTimeout b) ++
  whenDue (x.settleTimer.due now) (.settleTimeout b) ++
  whenDue (x.silenceTimer.due now) (.silenceTimerExpiry b) ++
  whenDue (x.quietTimer.due now) (.tachQuiet b) ++
  whenDue (x.stopTimer.due now) (.stopTimeout b) ++
  whenDue (x.loadTimer.due now) (.loadTimeout b) ++
  whenDue (x.unloadTimer.due now) (.unloadTimeout b)

/-- The debounced changes of one case input (R141). -/
def inputEvents (count : Nat) (asserted sample : Bool) (i : CaseInput) : List Instr :=
  whenDue (debounce 3 count (sample != asserted)).2 (if sample then .caseInputAssertion i else .caseInputRelease i)

/-- The timers outside the bays that have reached their expiry. -/
def State.timerEvents (s : State) (now : Clock) : List Instr :=
  whenDue (s.arbiter.spacingTimer.due now) .spacingTimerExpiry ++
  whenDue (s.motion.window.due now) .setupWindowExpiry ++
  whenDue (s.motion.retry.due now) .retryTimerExpiry ++
  whenDue (s.motion.watch.due now) .drdyWatchExpiry ++
  whenDue (s.motion.quiet.due now) .quietTimerExpiry ++
  whenDue (s.policy.supervision.due now) .supervisionLapse ++
  whenDue (s.link.gap.due now) .gapError

/-- The events of one millisecond of operation, in the model's order (log entry 5): the pins of each bay, the case
inputs, the timers of each bay, the other timers, the supply sample. -/
def State.tickEvents (s : State) (now : Clock) : List Instr :=
  (bayIds.map fun b => (s.bay b).pinEvents b (atBay s.inputs.seat b) (atBay s.inputs.prk b) now).flatten ++
  inputEvents s.policy.handleCount s.policy.handleState s.inputs.handle .handle ++
  inputEvents s.policy.lidCount s.policy.lidState s.inputs.lid .lid ++
  (bayIds.map fun b => (s.bay b).timerEvents b now).flatten ++
  s.timerEvents now ++ [.supplySample s.inputs.rail s.inputs.srcHigh]

/-- The part after the 1 ms samples, the counts kept, the Case Clock one on. -/
def State.sampled (s : State) : State :=
  { s with
    clock := s.clock + 1
    bays := tableOf fun b => (s.bay b).sampled (atBay s.inputs.seat b) (atBay s.inputs.prk b)
    policy := s.policy.sampled s.inputs.handle s.inputs.lid
    link := s.link.sampled s.inputs.rxdHigh }

/-- One millisecond (R182, R183). Held in reset nothing moves. In the start-up interval the Case Clock runs and the
interval's end is handed on when it is reached. In operation the pins are sampled and the events due are handed on. -/
def State.tick (s : State) : State :=
  match s.phase with
  | .held _ => s
  | .startUp _ ends =>
    let s := s.setClock (s.clock + 1)
    s.handOn (whenDue (reached s.clock ends) .startUpIntervalEnd)
  | .operating => s.sampled.handOn (s.tickEvents (s.clock + 1))

end Sys2Proof.Machine
end

