-- ==== Sys2Proof/Machine/Heads.lean ====
section
/-! DEFINITION. Head load and unload (03): parked sense events, the unload guard, the completion test, and the load
and unload timers. -/

namespace Sys2Proof.Machine

/-- A PRK release (R49): FLYING from LOADING (R52), an unsolicited release from SPINNING (R61), the level alone in
every other state. A released level cannot be released again. Log entry 26. -/
def takePrkRelease (b : BayId) (s : State) : State :=
  if (s.bay b).prkLevel then
    let s := s.mapBay b fun x => { x with prkLevel := false, prkAgree := 0 }
    match (s.bay b).state with
    | .spinning => s.toUnloading b
    | .loading => (s.mapBay b (·.enterFlying s.clock)).postBay b
    | .vacant | .stopped | .queued | .ramping | .settling | .flying | .unloading | .stopping | .faulted => s
  else s

/-- A PRK assertion (R49): an unsolicited park from FLYING (R60), the level alone in every other state. -/
def takePrkAssertion (b : BayId) (s : State) : State :=
  if (s.bay b).prkLevel then s
  else
    let s := s.mapBay b fun x => { x with prkLevel := true, prkAgree := 0 }
    match (s.bay b).state with
    | .flying => (s.mapBay b (·.withMark .unexpectedPark)).toUnloading b
    | .vacant | .stopped | .queued | .ramping | .settling | .spinning | .loading | .unloading | .stopping | .faulted => s

/-- The unload guard passes (R56, R57). -/
def takeGuardExpiry (b : BayId) (s : State) : State :=
  if (s.bay b).guard.over s.clock then s.mapBay b fun x => { x with guard := .passed } else s

/-- A completed unload returns to SPINNING: no mark, no stop mark, intent SPIN or FLY (R15, R57). -/
def Bay.returnsToSpinning (x : Bay) : Bool := x.mark.isNone && !x.stopMark && decide (x.intent ≠ .off)

/-- A completion test in UNLOADING (R57). -/
def takeCompletionTest (b : BayId) (s : State) : State :=
  let x := s.bay b
  if decide (x.state = .unloading) && x.guard.over s.clock && x.prkLevel then
    if x.returnsToSpinning then s.toSpinningUnloaded b else s.toStopping b
  else s

/-- The expiry of the load timer in LOADING (R53). -/
def takeLoadTimeout (b : BayId) (s : State) : State :=
  let x := s.bay b
  if decide (x.state = .loading) && x.loadTimer.due s.clock then
    (s.mapBay b (·.withMark .loadTimeout)).toUnloading b
  else s

/-- The expiry of the unload timer in UNLOADING: the unload is stranded (R59, R65). -/
def takeUnloadTimeout (b : BayId) (s : State) : State :=
  let x := s.bay b
  if decide (x.state = .unloading) && x.unloadTimer.due s.clock then
    ((s.mapBay b (·.withMark .stranded)).toStopping b).handOn [.strandingReport b]
  else s

/-- PRK_RELEASE. -/
def execPrkRelease (b : BayId) (s : State) : Host.Outcome State Fault Refusal :=
  s.event (.prkRelease b) (takePrkRelease b)

/-- PRK_ASSERTION. -/
def execPrkAssertion (b : BayId) (s : State) : Host.Outcome State Fault Refusal :=
  s.event (.prkAssertion b) (takePrkAssertion b)

/-- UNLOAD_GUARD_EXPIRY. -/
def execUnloadGuardExpiry (b : BayId) (s : State) : Host.Outcome State Fault Refusal :=
  s.event (.unloadGuardExpiry b) (takeGuardExpiry b)

/-- UNLOAD_COMPLETION. -/
def execUnloadCompletion (b : BayId) (s : State) : Host.Outcome State Fault Refusal :=
  s.event (.unloadCompletion b) (takeCompletionTest b)

/-- LOAD_TIMEOUT. -/
def execLoadTimeout (b : BayId) (s : State) : Host.Outcome State Fault Refusal :=
  s.event (.loadTimeout b) (takeLoadTimeout b)

/-- UNLOAD_TIMEOUT. -/
def execUnloadTimeout (b : BayId) (s : State) : Host.Outcome State Fault Refusal :=
  s.event (.unloadTimeout b) (takeUnloadTimeout b)

end Sys2Proof.Machine
end

