-- ==== Sys2Proof/Machine/Spindle.lean ====
section
/-! DEFINITION. Spindle power and speed (02): the PWM boundary, the duty ramp, tach edges and their tests, and the
spindle's timers. -/

namespace Sys2Proof.Machine

/-- At the end of a PWM period SPWRn takes the last programmed duty (R30). -/
def takePwmBoundary (b : BayId) (s : State) : State := s.mapBay b fun x => { x with spwr := x.duty }

/-- The expiry of the ramp step timer in RAMPING (R32). -/
def takeRampStep (b : BayId) (s : State) : State :=
  let x := s.bay b
  if decide (x.state = .ramping) && x.rampTimer.due s.clock then
    s.mapBay b fun x =>
      { x with
        duty := x.duty + 1
        rampTimer := if x.duty + 1 < 64 then .after s.clock x.desc.rampStep else .idle }
  else s

/-- The expiry of the spin-up timer in RAMPING (R33). -/
def takeSpinupTimeout (b : BayId) (s : State) : State :=
  let x := s.bay b
  if decide (x.state = .ramping) && x.spinupTimer.due s.clock then
    (s.mapBay b (·.withMark .spinupTimeout)).toStopping b
  else s

/-- The expiry of the settle timer in SETTLING (R38). -/
def takeSettleTimeout (b : BayId) (s : State) : State :=
  let x := s.bay b
  if decide (x.state = .settling) && x.settleTimer.due s.clock then
    (s.mapBay b (·.withMark .settleTimeout)).toStopping b
  else s

/-- The expiry of the silence timer: speed lost is found if the speed watch is armed (R40, R41). Log entry 16. -/
def takeSilence (b : BayId) (s : State) : State :=
  let x := s.bay b
  if x.state.proven && x.silenceTimer.due s.clock then
    let s := s.mapBay b fun x => { x with silenceTimer := .idle }
    if x.watchArmed then s.speedLost b else s
  else s

/-- Tach quiet in STOPPING: to FAULTED with a mark, else to STOPPED, and on to the queue if wanted (R16, R43). -/
def takeTachQuiet (b : BayId) (s : State) : State :=
  let x := s.bay b
  if decide (x.state = .stopping) && x.quietTimer.due s.clock then
    match x.mark with
    | some m => s.toFaulted b m.reason m.found
    | none => (s.toStopped b).queueIfWanted b
  else s

/-- The expiry of the stop timer in STOPPING (R44). -/
def takeStopTimeout (b : BayId) (s : State) : State :=
  let x := s.bay b
  if decide (x.state = .stopping) && x.stopTimer.due s.clock then s.toFaulted b .stopTimeout .stopping else s

/-- The microseconds from one edge to a later one (R35); 0 when the other is not earlier. Log entry 2. -/
def EdgeTime.elapsed (ref now : EdgeTime) : Nat := since now.ms ref.ms * 1000 + now.us - ref.us

/-- The states in which TACHn is observed (R34). -/
def tachObserved (st : BayState) : Bool := st.turning

/-- An observed edge is accepted unless it comes less than 100 µs after the edge reference (R34). -/
def Bay.accepts (x : Bay) (now : EdgeTime) : Bool :=
  match x.edgeRef with
  | none => true
  | some ref => decide (Config.glitchUs ≤ ref.elapsed now)

/-- What every accepted edge does: it becomes the edge reference and restarts the silence timer in the speed-proven
states or the tach quiet interval in STOPPING (R34, R40, R43). -/
def Bay.edgeAccepted (x : Bay) (now : EdgeTime) : Bay :=
  { x with
    edgeRef := some now
    silenceTimer := if x.state.proven then .after now.ms Config.silenceMs else x.silenceTimer
    quietTimer := if x.state = .stopping then .after now.ms Config.tachQuietMs else x.quietTimer }

/-- The off-band run after a period (R39). -/
def Bay.withOffBand (x : Bay) (period : Nat) : Bay :=
  { x with offBand := if x.inFaultBand period then 0 else min 3 (x.offBand + 1) }

/-- A period, already held as the last tach period, is tested in the bay's state (R35, R37, R38, R39). -/
def State.testPeriod (s : State) (b : BayId) (period : Nat) : State :=
  let x := s.bay b
  match x.state with
  | .ramping => if x.inSpeedBand period then s.mapBay b (·.enterSettling s.clock) else s
  | .settling =>
    if x.inSpeedBand period then
      let s := s.mapBay b fun x => { x with inBand := x.inBand + 1 }
      if x.desc.settleCount ≤ x.inBand + 1 then s.toSpinningProven b else s
    else s.mapBay b fun x => { x with inBand := 0 }
  | .spinning | .loading | .flying | .unloading =>
    let s := s.mapBay b (·.withOffBand period)
    if decide ((s.bay b).offBand = 3) && x.watchArmed then s.speedLost b else s
  | .vacant | .stopped | .queued | .stopping | .faulted => s

/-- A rising edge on TACHn (R34, R35). -/
def takeTachEdge (b : BayId) (us : Nat) (s : State) : State :=
  let x := s.bay b
  let now : EdgeTime := { ms := s.clock, us := us }
  if tachObserved x.state && x.accepts now then
    let s := s.mapBay b (·.edgeAccepted now)
    match x.edgeRef with
    | none => s
    | some ref =>
      let period := min Config.periodMax (ref.elapsed now)
      (s.mapBay b fun x => { x with lastTach := period }).testPeriod b period
  else s

/-- PWM_PERIOD_BOUNDARY. -/
def execPwmPeriodBoundary (b : BayId) (s : State) : Host.Outcome State Fault Refusal :=
  s.event (.pwmPeriodBoundary b) (takePwmBoundary b)

/-- RAMP_STEP. -/
def execRampStep (b : BayId) (s : State) : Host.Outcome State Fault Refusal := s.event (.rampStep b) (takeRampStep b)

/-- SPINUP_TIMEOUT. -/
def execSpinupTimeout (b : BayId) (s : State) : Host.Outcome State Fault Refusal :=
  s.event (.spinupTimeout b) (takeSpinupTimeout b)

/-- SETTLE_TIMEOUT. -/
def execSettleTimeout (b : BayId) (s : State) : Host.Outcome State Fault Refusal :=
  s.event (.settleTimeout b) (takeSettleTimeout b)

/-- SILENCE_TIMER_EXPIRY. -/
def execSilenceTimerExpiry (b : BayId) (s : State) : Host.Outcome State Fault Refusal :=
  s.event (.silenceTimerExpiry b) (takeSilence b)

/-- TACH_QUIET. -/
def execTachQuiet (b : BayId) (s : State) : Host.Outcome State Fault Refusal :=
  s.event (.tachQuiet b) (takeTachQuiet b)

/-- STOP_TIMEOUT. -/
def execStopTimeout (b : BayId) (s : State) : Host.Outcome State Fault Refusal :=
  s.event (.stopTimeout b) (takeStopTimeout b)

/-- TACH_EDGE. -/
def execTachEdge (b : BayId) (us : Nat) (s : State) : Host.Outcome State Fault Refusal :=
  s.event (.tachEdge b us) (takeTachEdge b us)

end Sys2Proof.Machine
end

