-- ==== Sys2Proof/Machine/Dispatch.lean ====
section
/-! DEFINITION. The meaning of each command: one arm per row of spec/opcode_table.json. -/

namespace Sys2Proof.Machine

/-- The effect of one command on everything but the queue of waiting commands. -/
def exec (i : Instr) (s : State) : Host.Outcome State Fault Refusal :=
  match i with
  | .ident => Sys2Proof.Machine.execIdent s
  | .restart => Sys2Proof.Machine.execRestart s
  | .baySetup bay d => Sys2Proof.Machine.execBaySetup bay d s
  | .bayAim bays target priority => Sys2Proof.Machine.execBayAim bays target priority s
  | .bayClear bays => Sys2Proof.Machine.execBayClear bays s
  | .bayQuery bay => Sys2Proof.Machine.execBayQuery bay s
  | .bayDescribe bay => Sys2Proof.Machine.execBayDescribe bay s
  | .motionSetup r => Sys2Proof.Machine.execMotionSetup r s
  | .motionQuery => Sys2Proof.Machine.execMotionQuery s
  | .trace back count stride => Sys2Proof.Machine.execTrace back count stride s
  | .episodes first count => Sys2Proof.Machine.execEpisodes first count s
  | .powerSetup r => Sys2Proof.Machine.execPowerSetup r s
  | .powerQuery => Sys2Proof.Machine.execPowerQuery s
  | .caseSetup r => Sys2Proof.Machine.execCaseSetup r s
  | .caseQuery => Sys2Proof.Machine.execCaseQuery s
  | .noticeMask mask => Sys2Proof.Machine.execNoticeMask mask s
  | .noticeFetch => Sys2Proof.Machine.execNoticeFetch s
  | .noticeStatus => Sys2Proof.Machine.execNoticeStatus s
  | .faultRead => Sys2Proof.Machine.execFaultRead s
  | .characterReception data stopHigh => Sys2Proof.Machine.execCharacterReception data stopHigh s
  | .gapError => Sys2Proof.Machine.execGapError s
  | .endOfReply => Sys2Proof.Machine.execEndOfReply s
  | .powerOn => Sys2Proof.Machine.execPowerOn s
  | .brownout => Sys2Proof.Machine.execBrownout s
  | .pinReset => Sys2Proof.Machine.execPinReset s
  | .resetRelease => Sys2Proof.Machine.execResetRelease s
  | .startUpIntervalEnd => Sys2Proof.Machine.execStartUpIntervalEnd s
  | .unseat b => Sys2Proof.Machine.execUnseat b s
  | .reseat b => Sys2Proof.Machine.execReseat b s
  | .prkRelease b => Sys2Proof.Machine.execPrkRelease b s
  | .prkAssertion b => Sys2Proof.Machine.execPrkAssertion b s
  | .unloadGuardExpiry b => Sys2Proof.Machine.execUnloadGuardExpiry b s
  | .unloadCompletion b => Sys2Proof.Machine.execUnloadCompletion b s
  | .tachEdge b us => Sys2Proof.Machine.execTachEdge b us s
  | .rampStep b => Sys2Proof.Machine.execRampStep b s
  | .spinupTimeout b => Sys2Proof.Machine.execSpinupTimeout b s
  | .settleTimeout b => Sys2Proof.Machine.execSettleTimeout b s
  | .silenceTimerExpiry b => Sys2Proof.Machine.execSilenceTimerExpiry b s
  | .tachQuiet b => Sys2Proof.Machine.execTachQuiet b s
  | .stopTimeout b => Sys2Proof.Machine.execStopTimeout b s
  | .loadTimeout b => Sys2Proof.Machine.execLoadTimeout b s
  | .unloadTimeout b => Sys2Proof.Machine.execUnloadTimeout b s
  | .forcedUnloadOrder b => Sys2Proof.Machine.execForcedUnloadOrder b s
  | .stopOrder b => Sys2Proof.Machine.execStopOrder b s
  | .stopOrderLift b => Sys2Proof.Machine.execStopOrderLift b s
  | .loadPermissionReport b allowed => Sys2Proof.Machine.execLoadPermissionReport b allowed s
  | .spinGateReport opened => Sys2Proof.Machine.execSpinGateReport opened s
  | .sourceReport src => Sys2Proof.Machine.execSourceReport src s
  | .spacingTimerExpiry => Sys2Proof.Machine.execSpacingTimerExpiry s
  | .drdyEdge => Sys2Proof.Machine.execDrdyEdge s
  | .identityReadComplete id => Sys2Proof.Machine.execIdentityReadComplete id s
  | .setupWindowExpiry => Sys2Proof.Machine.execSetupWindowExpiry s
  | .retryTimerExpiry => Sys2Proof.Machine.execRetryTimerExpiry s
  | .drdyWatchExpiry => Sys2Proof.Machine.execDrdyWatchExpiry s
  | .sampleArrival x y z => Sys2Proof.Machine.execSampleArrival x y z s
  | .quietTimerExpiry => Sys2Proof.Machine.execQuietTimerExpiry s
  | .quietRestartRequest => Sys2Proof.Machine.execQuietRestartRequest s
  | .unloadReport b => Sys2Proof.Machine.execUnloadReport b s
  | .strandingReport b => Sys2Proof.Machine.execStrandingReport b s
  | .motionVerdictHandoff cls tilt quiet => Sys2Proof.Machine.execMotionVerdictHandoff cls tilt quiet s
  | .supplyStateReport st => Sys2Proof.Machine.execSupplyStateReport st s
  | .caseInputAssertion input => Sys2Proof.Machine.execCaseInputAssertion input s
  | .caseInputRelease input => Sys2Proof.Machine.execCaseInputRelease input s
  | .supervisionLapse => Sys2Proof.Machine.execSupervisionLapse s
  | .supplySample rail srcHigh => Sys2Proof.Machine.execSupplySample rail srcHigh s
  | .faultCapture c => Sys2Proof.Machine.execFaultCapture c s
  | .noticePost k time payload => Sys2Proof.Machine.execNoticePost k time payload s
  | .pwmPeriodBoundary b => Sys2Proof.Machine.execPwmPeriodBoundary b s

end Sys2Proof.Machine
end

