-- ==== Sys2Proof/Machine/Step.lean ====
section
/-! DEFINITION. One step of the part: the command at the front of the queue, or with no command waiting the oldest
event in flight, or with neither one millisecond of the Case Clock. Log entries 1 and 4. -/

namespace Sys2Proof.Machine

/-- One step. -/
def step (s : State) : Host.Outcome State Fault Refusal :=
  match s.pending with
  | c :: rest => exec c { s with pending := rest }
  | [] =>
    match s.inFlight with
    | c :: _ => exec c s
    | [] => .next s.tick

/-- The state with the command that a word spells put at the front of its queue, and unchanged where the word spells
none, as every word does (log entry 21). -/
def State.withFetchWord (s : State) (nbits w : Nat) : State :=
  match decodeTableWord nbits w with
  | some c => { s with pending := c :: s.pending }
  | none => s

end Sys2Proof.Machine
end

