-- ==== Sys2Proof/Safety.lean ====
section
/-! DEFINITION. What a lawful state is: the laws that the manual's rules give each block, as properties of one state,
which every step keeps and the reset state has; and the words in which statements about the link are made. -/

namespace Sys2Proof

/-- The command that brings a request to the part. -/
def Request.command : Request → Instr
  | .ident => .ident
  | .restart => .restart
  | .baySetup bay d => .baySetup bay d
  | .bayAim bays target priority => .bayAim bays target priority
  | .bayClear bays => .bayClear bays
  | .bayQuery bay => .bayQuery bay
  | .bayDescribe bay => .bayDescribe bay
  | .motionSetup r => .motionSetup r
  | .motionQuery => .motionQuery
  | .trace back count stride => .trace back count stride
  | .episodes first count => .episodes first count
  | .powerSetup r => .powerSetup r
  | .powerQuery => .powerQuery
  | .caseSetup r => .caseSetup r
  | .caseQuery => .caseQuery
  | .noticeMask mask => .noticeMask mask
  | .noticeFetch => .noticeFetch
  | .noticeStatus => .noticeStatus
  | .faultRead => .faultRead

end Sys2Proof

namespace Sys2Proof.Machine

/-! ## The link -/

/-- The part can carry a request out at once: past the start-up interval, no reply being sent. -/
def State.canAnswer (s : State) : Prop := s.phase = .operating ∧ s.link.tx = .idle

/-- The size of a request's OK reply payload (R185), in the state in which the request is carried out. -/
def State.replySize (s : State) : Request → Nat
  | .ident => 11
  | .restart => 0
  | .baySetup _ _ => 16
  | .bayAim bays _ _ => 2 + ((baysOf bays).getD []).length
  | .bayClear bays => 2 + ((baysOf bays).getD []).length
  | .bayQuery _ => 17
  | .bayDescribe _ => 16
  | .motionSetup _ => 13
  | .motionQuery => 37
  | .trace back count stride => 5 + 9 * (traceFields s.motion.ring.length back count stride).2.1
  | .episodes first count => 3 + 14 * (episodeFields s.motion.episodes.length first count).2
  | .powerSetup _ => 6
  | .powerQuery => 44 + s.arbiter.queue.length
  | .caseSetup _ => 4
  | .caseQuery => 11
  | .noticeMask _ => 2
  | .noticeFetch => if s.notices.queue = [] then 0 else 11
  | .noticeStatus => 6
  | .faultRead => 12

/-- The characters of a list received one after another, each with a good stop bit, nothing else happening. -/
def receiveAll : List Byte → State → State
  | [], s => s
  | c :: cs, s =>
    match exec (.characterReception c true) s with
    | .next t => receiveAll cs t
    | .fault _ => s
    | .refused _ => s

/-- A message on TXD is a correct frame (R168, R169): SYNC, then bytes that sum to 0 modulo 256, the first of them
the number of bytes between it and CHECK. -/
def correctFrame (f : List Byte) : Prop :=
  f.head? = some Config.sync ∧ byteSum f.tail = 0 ∧ f.tail.head? = some (BitVec.ofNat 8 (f.length - 3))

/-- The Link Port keeps its parts in step (R169 to R176). -/
def Link.lawful (l : Link) : Prop :=
  (l.rx = .hunt ↔ l.gap = .idle) ∧
  (∀ len got sum, l.rx = .body len got sum →
    1 ≤ len.toNat ∧ len.toNat ≤ 62 ∧ got.length ≤ len.toNat ∧ sum = byteSum (len :: got)) ∧
  (l.held.isSome → l.tx ≠ .idle) ∧
  (∀ f restart, l.tx = .sending f restart → correctFrame f)

/-! ## Bays and arbiter -/

/-- The spin queue holds exactly the bays in state QUEUED, each once (R68). -/
def State.queueLawful (s : State) : Prop :=
  s.arbiter.queue.Nodup ∧ ∀ b, b ∈ s.arbiter.queue ↔ (s.bay b).state = .queued

/-- A stored descriptor is in range (1.2, R1). -/
def Descriptor.inRange (d : Descriptor) : Prop :=
  (1 ≤ d.peakDraw ∧ d.peakDraw ≤ 60) ∧ (1 ≤ d.runDraw ∧ d.runDraw ≤ d.peakDraw) ∧
  (300 ≤ d.speedCode ∧ d.speedCode ≤ 1500) ∧ (1 ≤ d.pulses ∧ d.pulses ≤ 8) ∧
  (1 ≤ d.tolerance ∧ d.tolerance ≤ 32) ∧ (4 ≤ d.settleCount ∧ d.settleCount ≤ 64) ∧
  (8 ≤ d.rampStart ∧ d.rampStart ≤ 64) ∧ (1 ≤ d.rampStep ∧ d.rampStep ≤ 255) ∧
  (1 ≤ d.spinupTimeout ∧ d.spinupTimeout ≤ 60) ∧ (5 ≤ d.loadTimeout ∧ d.loadTimeout ≤ 200) ∧
  (5 ≤ d.unloadTimeout ∧ d.unloadTimeout ≤ 200) ∧ (1 ≤ d.stopTimeout ∧ d.stopTimeout ≤ 120)

/-- A bay's outputs follow from its state (R10): HLD, the programmed duty, and in RAMPING the ramp (R31, R32). -/
def Bay.outputsFollow (x : Bay) : Prop :=
  (x.hld = true ↔ x.state = .loading ∨ x.state = .flying) ∧
  (x.duty ≠ 0 → x.state.poweredUp = true) ∧
  (x.state.poweredUp = true → x.state ≠ .ramping → x.duty = 64) ∧
  (x.state = .ramping → x.desc.rampStart ≤ x.duty ∧ x.duty ≤ 64) ∧
  (x.rampTimer ≠ .idle → x.state = .ramping ∧ x.duty < 64) ∧
  x.desc.inRange

/-- The laws of one bay's record: R5; reason in FAULTED alone (R19); marks on the way out alone (R15 to R20); seated
from QUEUED to STOPPING (R7, note); the PRK level of SPINNING, LOADING, FLYING (R49); each timer where it runs. -/
def Bay.lawful (x : Bay) : Prop :=
  (x.state = .vacant ↔ x.desc.access = .absent) ∧
  (x.state = .vacant ∨ x.state = .faulted → x.intent = .off) ∧
  (x.intent = .fly → x.desc.access = .full) ∧
  (x.reason.isSome = true ↔ x.state = .faulted) ∧
  (x.mark.isSome = true ∨ x.stopMark = true → x.state = .unloading ∨ x.state = .stopping) ∧
  (x.state = .queued ∨ x.state.turning = true → x.seated = true) ∧
  (x.state = .spinning ∨ x.state = .loading → x.prkLevel = true) ∧
  (x.state = .flying → x.prkLevel = false) ∧
  (x.spinupTimer ≠ .idle ↔ x.state = .ramping) ∧
  (x.settleTimer ≠ .idle ↔ x.state = .settling) ∧
  (x.silenceTimer ≠ .idle → x.state.proven = true) ∧
  (x.quietTimer ≠ .idle ↔ x.state = .stopping) ∧
  (x.stopTimer ≠ .idle ↔ x.state = .stopping) ∧
  (x.loadTimer ≠ .idle ↔ x.state = .loading) ∧
  (x.unloadTimer ≠ .idle ↔ x.state = .unloading) ∧
  (x.guard ≠ .idle ↔ x.state = .unloading)

/-- Every bay is lawful, and the queue holds the QUEUED ones. -/
def State.baysLawful (s : State) : Prop := s.queueLawful ∧ ∀ b, (s.bay b).lawful

/-- Every bay's charge is the draw of its state (R71), every descriptor and budget is in range, and C is 0..255
(4.1). -/
def State.chargesLawful (s : State) : Prop :=
  (∀ b, atBay s.arbiter.charges b = (s.bay b).draw ∧ (s.bay b).desc.inRange) ∧
  (1 ≤ s.arbiter.mainsBudget ∧ s.arbiter.mainsBudget ≤ 255) ∧
  (1 ≤ s.arbiter.batteryBudget ∧ s.arbiter.batteryBudget ≤ 255) ∧
  s.arbiter.committed ≤ 255

/-- No grant is left undone (R72): with the gate open and the spacing timer idle, no candidate fits. -/
def State.grantsDone (s : State) : Prop :=
  s.arbiter.gateOpen = true → s.arbiter.spacingTimer = .idle → ∀ b, s.candidate = some b → s.fits b = false

/-! ## Motion Unit -/

/-- The motion settings are in range and in order (5.7, 6.6, R127). -/
def MotionSettings.inRange (t : MotionSettings) : Prop :=
  (3 ≤ t.gravityShift ∧ t.gravityShift ≤ 10) ∧ (3 ≤ t.windowExponent ∧ t.windowExponent ≤ 6) ∧
  (1 ≤ t.shockCode ∧ t.shockCode ≤ 127) ∧ (1 ≤ t.freefallCode ∧ t.freefallCode ≤ 16) ∧
  (2 ≤ t.freefallCount ∧ t.freefallCount ≤ 64) ∧ t.tiltLimit ≤ 255 ∧
  (1 ≤ t.rollOn ∧ t.rollOn ≤ 4095) ∧ (t.rollOn + t.hysteresis < t.roughOn ∧ t.roughOn ≤ 4095) ∧
  (t.hysteresis ≤ 63 ∧ t.hysteresis < t.rollOn) ∧ (1 ≤ t.quietBase ∧ t.quietBase ≤ 100) ∧
  (1 ≤ t.escalationSpan ∧ t.escalationSpan ≤ 255)

/-- One component of the gravity estimate is in range (R96). -/
def gravityInRange (g : Int) : Prop := -524288 ≤ g ∧ g ≤ 524032

/-- A ring entry holds what an arrival can write (R95, R97). -/
def Sample.inRange (e : Sample) : Prop :=
  (-2048 ≤ e.x ∧ e.x ≤ 2047) ∧ (-2048 ≤ e.y ∧ e.y ≤ 2047) ∧ (-2048 ≤ e.z ∧ e.z ≤ 2047) ∧ e.activity ≤ 12285

/-- The sampling side of the Motion Unit (R93, R96 to R101, R104, R110 to R113): S is the sum over the window, L
follows from S, primed and the class stand together, and a sensor that is not RUNNING has no run. -/
def Motion.samplingLawful (m : Motion) : Prop :=
  let w := windowOf m.settings.windowExponent
  m.settings.inRange ∧ m.ring.length ≤ 64 ∧ m.runLength ≤ m.ring.length ∧ (∀ e ∈ m.ring, e.inRange) ∧
  m.sum = activitySum m.ring (min w m.runLength) ∧
  m.priming ≤ w ∧ m.priming ≤ m.runLength ∧ (m.primed = true ↔ m.priming = w) ∧
  (m.primed = true ↔ m.cls ≠ .unprimed) ∧ (m.primed = true → m.level = m.sum / w) ∧
  (m.sensor ≠ .running → m.runLength = 0) ∧ (m.port = .reading → m.sensor = .running) ∧
  gravityInRange m.gx ∧ gravityInRange m.gy ∧ gravityInRange m.gz ∧ m.freefallRun ≤ 64

/-- The episode list and the quiet timer (6.4, R118 to R124): at most eight records, only the newest open, the newest
numbered by the counter, and an open episode only while the timer runs to an expiry. -/
def Motion.episodesLawful (m : Motion) : Prop :=
  m.episodes.length ≤ 8 ∧ (∀ e ∈ m.episodes.tail, e.duration.isSome = true) ∧
  (∀ e ∈ m.episodes, e.peak ≤ 4095 ∧ e.unloaded ≤ 255 ∧ e.stranded ≤ 255 ∧ (e.shock = true ∨ e.freefall = true)) ∧
  (∀ e, m.episodes.head? = some e → e.sequence = m.sequence) ∧
  (m.openEpisode.isSome = true → ∃ expiry, m.quiet = .running expiry) ∧ 1 ≤ m.multiplier ∧ m.multiplier ≤ 4

/-- The Motion Unit is lawful, and at its full-reset values until the part operates (R183). -/
def State.motionLawful (s : State) : Prop :=
  s.motion.samplingLawful ∧ s.motion.episodesLawful ∧ (s.phase ≠ .operating → s.motion = .reset)

/-! ## Park Policy, Supply Monitor, records -/

/-- The policy's outputs are those its inputs give (R133 to R139), its bay table is the bays' (R132), and supervision
is OFF with period 0 alone (R150). -/
def State.policyLawful (s : State) : Prop :=
  (∀ b, atBay s.policy.loadPermission b = s.policy.load b) ∧
  (∀ b, atBay s.policy.flightPermission b = s.policy.flight b) ∧
  s.policy.gateOpen = s.policy.gate ∧ s.policy.stopStanding = s.policy.stop ∧
  (∀ b, atBay s.policy.table b = { access := (s.bay b).desc.access, motionLimit := (s.bay b).desc.motionLimit }) ∧
  (s.policy.supervision = .off ↔ s.policy.period = 0)

/-- The Supply Monitor's record (8.1, R154 to R158): ranges, and in each state the counts it tests next below their
limits. -/
def Supply.lawful (m : Supply) : Prop :=
  m.reading ≤ 1600 ∧ m.warnIndex ≤ 15 ∧ m.cutoffIndex ≤ 15 ∧ m.warnDwell ≤ 10 ∧ m.cutoffDwell ≤ 3 ∧ m.agree ≤ 2 ∧
  (m.state = .none → m.reading = 0 ∧ m.warnDwell = 0 ∧ m.cutoffDwell = 0) ∧
  (m.state = .normal → m.warnDwell < 10 ∧ m.cutoffDwell < 3) ∧
  (m.state = .low → m.cutoffDwell < 3)

/-- The Notice Queue (R198 to R201): at most eight entries, each key once and never queued and pending at once, every
urgent entry ahead of every routine one, pending records by key number, counts 1..255, and an unmasked key pending
only behind a full queue. -/
def Notices.lawful (n : Notices) : Prop :=
  n.queue.length ≤ 8 ∧ (n.queue.map (·.key)).Nodup ∧
  n.pending.Pairwise (fun a b => a.key.number < b.key.number) ∧
  (∀ e ∈ n.queue, ∀ p ∈ n.pending, e.key ≠ p.key) ∧
  n.queue.Pairwise (fun a b => b.key.urgent = true → a.key.urgent = true) ∧
  (∀ e ∈ n.queue ++ n.pending, 1 ≤ e.count ∧ e.count ≤ 255) ∧
  (∀ p ∈ n.pending, n.masked p.key = false → n.queue.length = 8)

/-- The pending record that enters next (R201): of an unmasked kind, urgent before routine, lowest key number first. -/
def Notices.entersNext (n : Notices) (p : Notice) : Prop :=
  p ∈ n.pending ∧ n.masked p.key = false ∧
  ∀ q ∈ n.pending, n.masked q.key = false →
    (q.key.urgent = true → p.key.urgent = true) ∧ (q.key.urgent = p.key.urgent → p.key.number ≤ q.key.number)

/-- The Fault Record's more flag needs a record (R207, R209). -/
def FaultRecord.lawful (f : FaultRecord) : Prop := f.more = true → f.record.isSome = true

/-! ## Reset -/

/-- Until the part operates every block holds its full-reset values, and in reset the Case Clock stands at 0 (R182,
R183). -/
def State.resetLawful (s : State) : Prop :=
  (s.phase ≠ .operating →
    s.bays = .replicate 12 .reset ∧ s.arbiter = .reset ∧ s.motion = .reset ∧ s.policy = .reset ∧ s.supply = .reset ∧
    s.link = .reset ∧ s.notices = .reset ∧ s.faults = .reset) ∧
  (∀ kind, s.phase = .held kind → s.clock = 0)

end Sys2Proof.Machine
end

