-- ==== Sys2Proof/Certificates/Slice0/Obligations.lean ====
section
/-! DEFINITION. The statements for the provers. In each, `s.taken c` is `s` with the command's own report, if one is in
flight, used up (log entry 4); it differs from `s` in nothing else. -/

section SliceObligations

open Sys2Proof Sys2Proof.Machine

/-! ## Steps, the queue, time -/

/-- A step runs the command at the front of the queue on the state with the queue's rest. -/
def Obligations.StepRunsTheFrontCommand : Prop :=
  ∀ (c : Instr) (rest : List Instr) (s : State),
    step { s with pending := c :: rest } = exec c { s with pending := rest }

/-- The model's choice (log entries 1, 4 and 5): with no command waiting, a step takes the oldest report in flight,
and with none in flight either it is one millisecond of the Case Clock. In one millisecond of operation (R22, R48,
R141, R154, R182) the Case Clock rises by 1 and every SEATn, PRKn, HANDLE# and LID# sample is counted, and a high RXD
ends the receiver's wait for it (R167, log entry 30); nothing else changes but what is handed on, each a report of its
own (log entries 19 and 20): the third differing SEATn, HANDLE# or LID# sample and the second agreeing PRKn sample as
their event, the PWM boundary of a bay whose duty SPWRn does not carry yet (R30), every timer whose expiry is reached
(log entry 3), the unload guard and in UNLOADING the completion test, after the PRKn sample has been applied (R57),
and one supply sample; and nothing else. In a start-up interval the Case Clock alone runs, and the interval's end is
handed on when it is reached; held in reset nothing moves (R182, R183). -/
def Obligations.IdleStepsTakeReportsThenOneMillisecond : Prop :=
  (∀ s : State, s.pending = [] →
     (∀ c rest, s.inFlight = c :: rest → step s = exec c s) ∧ (s.inFlight = [] → step s = .next s.tick)) ∧
  (∀ s : State, s.inFlight = [] →
     (∀ kind, s.phase = .held kind → s.tick = s) ∧
     (∀ kind ends, s.phase = .startUp kind ends → s.tick =
       { s with
         clock := s.clock + 1
         inFlight := if reached (s.clock + 1) ends = true then [.startUpIntervalEnd] else [] })) ∧
  (∀ s : State, s.phase = .operating → s.inFlight = [] →
     let p := s.policy
     let pins := s.inputs
     let seat (b : BayId) := atBay pins.seat b
     let prk (b : BayId) := atBay pins.prk b
     let ends (t : Timer) : Prop := ∃ e, t = .running e ∧ reached (s.clock + 1) e = true
     let counted (sample value : Bool) (count : Nat) : Nat :=
       if sample = value ∨ 2 ≤ count then 0 else count + 1
     let turns (i : CaseInput) (v : Bool) : Prop :=
       match i with
       | .handle => pins.handle = v ∧ p.handleState ≠ v ∧ 2 ≤ p.handleCount
       | .lid => pins.lid = v ∧ p.lidState ≠ v ∧ 2 ≤ p.lidCount
     s.tick =
       { s with
         clock := s.clock + 1
         bays := s.tick.bays
         policy :=
           { p with
             handleCount := counted pins.handle p.handleState p.handleCount
             lidCount := counted pins.lid p.lidState p.lidCount }
         link := { s.link with awaitHigh := if pins.rxdHigh = true then false else s.link.awaitHigh }
         inFlight := s.tick.inFlight } ∧
     (∀ b, let x := s.bay b
       s.tick.bay b =
         { x with
           seatCount := counted (seat b) x.seated x.seatCount
           prkSample := prk b
           prkAgree :=
             if prk b = x.prkLevel then 0
             else if prk b ≠ x.prkSample then 1
             else if 1 ≤ x.prkAgree then 0 else x.prkAgree + 1 }) ∧
     (∀ c : Instr, c ∈ s.tick.inFlight ↔
       match c with
       | .reseat b => seat b = true ∧ (s.bay b).seated = false ∧ 2 ≤ (s.bay b).seatCount
       | .unseat b => seat b = false ∧ (s.bay b).seated = true ∧ 2 ≤ (s.bay b).seatCount
       | .prkRelease b =>
         prk b = false ∧ (s.bay b).prkLevel = true ∧ (s.bay b).prkSample = false ∧ 1 ≤ (s.bay b).prkAgree
       | .prkAssertion b =>
         prk b = true ∧ (s.bay b).prkLevel = false ∧ (s.bay b).prkSample = true ∧ 1 ≤ (s.bay b).prkAgree
       | .caseInputAssertion i => turns i true
       | .caseInputRelease i => turns i false
       | .pwmPeriodBoundary b => (s.bay b).duty ≠ (s.bay b).spwr
       | .unloadGuardExpiry b => ∃ e, (s.bay b).guard = .running e ∧ reached (s.clock + 1) e = true
       | .unloadCompletion b => (s.bay b).state = .unloading
       | .rampStep b => ends (s.bay b).rampTimer
       | .spinupTimeout b => ends (s.bay b).spinupTimer
       | .settleTimeout b => ends (s.bay b).settleTimer
       | .silenceTimerExpiry b => ends (s.bay b).silenceTimer
       | .tachQuiet b => ends (s.bay b).quietTimer
       | .stopTimeout b => ends (s.bay b).stopTimer
       | .loadTimeout b => ends (s.bay b).loadTimer
       | .unloadTimeout b => ends (s.bay b).unloadTimer
       | .spacingTimerExpiry => ends s.arbiter.spacingTimer
       | .setupWindowExpiry => ends s.motion.window
       | .retryTimerExpiry => ends s.motion.retry
       | .drdyWatchExpiry => ends s.motion.watch
       | .quietTimerExpiry => ∃ e, s.motion.quiet = .running e ∧ reached (s.clock + 1) e = true
       | .supervisionLapse => ∃ e, p.supervision = .active e ∧ reached (s.clock + 1) e = true
       | .gapError => ends s.link.gap
       | .supplySample rail srcHigh => rail = pins.rail ∧ srcHigh = pins.srcHigh
       | _ => False) ∧
     (∀ b, (s.bay b).state = .unloading → ∀ c ∈ [Instr.prkRelease b, .prkAssertion b, .unloadGuardExpiry b],
       c ∈ s.tick.inFlight → [c, .unloadCompletion b].Sublist s.tick.inFlight))

/-- Every command completes, and none touches the queue, the input pins, or, resets and the end of the start-up
interval apart, the Case Clock and the phase (R182: "Software cannot write it."). -/
def Obligations.CommandsLeaveQueuePinsAndClock : Prop :=
  ∀ (c : Instr) (s : State), ∃ t, exec c s = .next t ∧ t.pending = s.pending ∧ t.inputs = s.inputs ∧
    (c ≠ .powerOn → c ≠ .brownout → c ≠ .pinReset → c ≠ .resetRelease →
      t.clock = s.clock ∧ (c ≠ .startUpIntervalEnd → t.phase = s.phase))

/-! ## The link -/

/-- Decode and encode of requests agree: a KIND and a payload are read as a request exactly when they are that
request's own (R174, R185, R189, R192 to R196). -/
def Obligations.RequestBytesAndRequestsAgree : Prop :=
  ∀ (kind : Byte) (payload : List Byte) (r : Request),
    judge kind payload = .request r ↔ kind = r.kind ∧ payload = r.payload

/-- Receiving the characters of a request's frame in HUNT, nothing else happening, is the request's command (R168 to
R172, R174). That the request command stands for the complete frame is the model's choice (log entry 14). -/
def Obligations.ReceivedFrameIsTheRequest : Prop :=
  ∀ (r : Request) (s : State), s.phase = .operating → s.link.rx = .hunt → s.link.gap = .idle →
    s.link.awaitHigh = false → (∀ c, Instr.characterReception c true ∉ s.inFlight) → r.command ∉ s.inFlight →
    exec r.command s = .next (receiveAll r.frame s)

/-- The receiver by its three states, and the gap timer (R167, R170 to R174). A character is eight data bits, least
significant first, and the stop bit, as sampled after its start bit (R166, R167). After a framing error no character is
taken while RXD stays low; at what moments RXD is looked at for that is the model's choice (log entry 30). -/
def Obligations.ReceiverFollowsFrameStates : Prop :=
  (∀ (c : Byte) (stop : Bool),
     receptionOf ([false] ++ (List.range 8).map (fun i => c.getLsbD i) ++ [stop]) = .characterReception c stop) ∧
  ∀ s : State, s.phase = .operating →
    (∀ (c : Byte) (stop : Bool), s.link.awaitHigh = true → s.inputs.rxdHigh = false →
      exec (.characterReception c stop) s = .next (s.taken (.characterReception c stop))) ∧
    (∀ (c : Byte) (stop : Bool), s.link.awaitHigh = false ∨ s.inputs.rxdHigh = true →
      let s0 := (s.taken (.characterReception c stop)).setLink { s.link with awaitHigh := !stop }
      let h := s0.setLink { s0.link with rx := .hunt, gap := .idle }
      let five := Timer.after s.clock 5
      (s.link.rx = .hunt → c ≠ 0xA5 → exec (.characterReception c stop) s = .next s0) ∧
      (s.link.rx = .hunt → c = 0xA5 →
        exec (.characterReception c stop) s = .next (s0.setLink { s0.link with rx := .length, gap := five })) ∧
      (s.link.rx = .length → 1 ≤ c.toNat → c.toNat ≤ 62 →
        exec (.characterReception c stop) s = .next (s0.setLink { s0.link with rx := .body c [] c, gap := five })) ∧
      (s.link.rx = .length → c.toNat = 0 ∨ 63 ≤ c.toNat →
        exec (.characterReception c stop) s = .next (h.itemMade (.linkError .lengthError c))) ∧
      (∀ len got sum, s.link.rx = .body len got sum → got.length < len.toNat →
        exec (.characterReception c stop) s =
          .next (s0.setLink { s0.link with rx := .body len (got ++ [c]) (sum + c), gap := five })) ∧
      (∀ len kind payload sum, s.link.rx = .body len (kind :: payload) sum → payload.length + 1 = len.toNat →
        (sum + c ≠ 0 →
          exec (.characterReception c stop) s = .next (h.itemMade (.linkError .checkError kind))) ∧
        (sum + c = 0 → judge kind payload = .unknownKind →
          exec (.characterReception c stop) s = .next (h.itemMade (.linkError .unknownKind kind))) ∧
        (sum + c = 0 → judge kind payload = .badSize →
          exec (.characterReception c stop) s = .next (h.itemMade (.badSize kind))) ∧
        (∀ r, sum + c = 0 → judge kind payload = .request r →
          exec (.characterReception c stop) s = .next (h.itemMade (.request r))))) ∧
    (∀ e, s.link.gap = .running e → reached s.clock e = true →
      let h := (s.taken .gapError).setLink { s.link with rx := .hunt, gap := .idle }
      (s.link.rx = .length → exec .gapError s = .next (h.itemMade (.linkError .gapError 1))) ∧
      (∀ len got sum, s.link.rx = .body len got sum →
        exec .gapError s = .next (h.itemMade (.linkError .gapError 2))))

/-- An answer-due item is dispatched with the transmitter idle, held while a reply is sent and the slot is empty, and
discarded with the overrun indication while the slot is full; so each of the nineteen requests waits or is discarded
while a reply is sent, and nothing else changes (R175 to R178). -/
def Obligations.ItemsAreDispatchedHeldOrDiscarded : Prop :=
  (∀ (item : Item) (s : State),
     (s.link.tx = .idle →
       (∀ r, item = .request r →
         s.itemMade item =
           (carryOut r s.acceptedRequest).2.sendReply (r.kind + 0x80) (carryOut r s.acceptedRequest).1.result
             (carryOut r s.acceptedRequest).1.clamped (carryOut r s.acceptedRequest).1.payload
             (decide (r = .restart))) ∧
       (∀ kind, item = .badSize kind →
         s.itemMade item = s.acceptedRequest.sendReply (kind + 0x80) .badSize false [] false) ∧
       (∀ code detail, item = .linkError code detail →
         s.itemMade item = s.sendReply 0xFF code false [detail] false)) ∧
     (s.link.tx ≠ .idle → s.link.held = none → s.itemMade item = s.setLink { s.link with held := some item }) ∧
     (s.link.tx ≠ .idle → s.link.held.isSome = true → s.itemMade item = s.setLink { s.link with overrun := true })) ∧
  (∀ (r : Request) (s : State), s.phase = .operating → s.link.tx ≠ .idle →
     (s.link.held = none →
       exec r.command s = .next ((s.taken r.command).setLink { s.link with held := some (.request r) })) ∧
     (s.link.held.isSome = true →
       exec r.command s = .next ((s.taken r.command).setLink { s.link with overrun := true })))

/-- A reply is a frame of KIND, RESULT, FLAGS and payload; the eight result codes are R180's; the five flags are read
from the state as it stands, and the overrun and lapse-seen indications taken into them are cleared (R168, R178 steps
3 and 4, R179, R180, R181). TXD carries the frame's characters back to back, each a start bit, eight data bits, least
significant first, and a high stop bit; it is high past their end, while the transmitter is idle, in reset and in a
start-up interval (R166, R167, R175); the place in a reply is no state of the model (log entry 15). -/
def Obligations.RepliesCarryResultAndFlags : Prop :=
  (∀ r : Result, resultCode r =
     match r with
     | .ok => 0 | .checkError => 1 | .lengthError => 2 | .gapError => 3 | .unknownKind => 4 | .badSize => 5
     | .busy => 6 | .badBay => 7) ∧
  (∀ s : State,
     (s.phase ≠ .operating ∨ s.link.tx = .idle → ∀ place, s.txdHigh place = true) ∧
     (∀ sent restart, s.phase = .operating → s.link.tx = .sending sent restart →
       (∀ i c, sent[i]? = some c →
         s.txdHigh (10 * i) = false ∧ (∀ j, j < 8 → s.txdHigh (10 * i + 1 + j) = c.getLsbD j) ∧
         s.txdHigh (10 * i + 9) = true) ∧
       ∀ place, 10 * sent.length ≤ place → s.txdHigh place = true)) ∧
  ∀ (s : State) (kind : Byte) (result : Result) (clamped : Bool) (payload : List Byte) (restart : Bool),
    ∃ flags : Byte,
      s.sendReply kind result clamped payload restart =
        s.setLink { s.link with
          overrun := false, lapseSeen := false,
          tx := .sending (Sys2Proof.frame (kind :: resultCode result :: flags :: payload)) restart } ∧
      (flags.getLsbD 0 = true ↔ s.notices.queue ≠ []) ∧ (flags.getLsbD 1 = true ↔ s.faults.record ≠ none) ∧
      (flags.getLsbD 2 = true ↔ s.link.overrun = true) ∧ (flags.getLsbD 3 = true ↔ s.link.lapseSeen = true) ∧
      (flags.getLsbD 4 = true ↔ clamped = true) ∧ flags.toNat < 32

/-- The end of a reply: the transmitter idle, or the held item dispatched; at the end of a RESTART reply the warm
restart, which empties receiver, slot, indications, notices and fault record, keeps all else but the cause, and
reloads supervision (R175, R176, R184, R187, R206, R210, R153). -/
def Obligations.EndOfReplyFreesTheTransmitter : Prop :=
  ∀ s : State, s.phase = .operating →
    let s0 := s.taken .endOfReply
    (∀ f, s.link.tx = .sending f false → s.link.held = none →
      exec .endOfReply s = .next (s0.setLink { s.link with tx := .idle })) ∧
    (∀ f item, s.link.tx = .sending f false → s.link.held = some item →
      exec .endOfReply s = .next ((s0.setLink { s.link with tx := .idle, held := none }).dispatch item)) ∧
    (∀ f, s.link.tx = .sending f true →
      let w := (((s0.setLink
        { rx := .hunt, gap := .idle, awaitHigh := s.link.awaitHigh, tx := .idle, held := none, overrun := false,
          lapseSeen := false }).setNotices { queue := [], pending := [], mask := 0 }).setFaults
            { record := none, more := false }).setCause .restart
      let reloaded := w.setPolicy
        { s.policy with supervision := .active (s.clock + BitVec.ofNat 32 (s.policy.period * 100)) }
      (s.policy.period = 0 → exec .endOfReply s = .next w) ∧
      (∀ e, s.policy.period ≠ 0 → s.policy.supervision = .active e → exec .endOfReply s = .next reloaded) ∧
      (s.policy.period ≠ 0 → s.policy.supervision = .lapsed → exec .endOfReply s = .next reloaded.reevaluate))

/-- Every OK reply has the payload size of its kind, and none is above 59 bytes (R179, R185, R195). -/
def Obligations.ReplyPayloadsHaveTheirSizes : Prop :=
  ∀ (r : Request) (s : State),
    ((carryOut r s).1.result = .ok → (carryOut r s).1.payload.length = s.replySize r) ∧
    ((carryOut r s).1.result ≠ .ok → (carryOut r s).1.payload = [] ∧ (carryOut r s).1.clamped = false) ∧
    (s.arbiter.queue.length ≤ 12 → (carryOut r s).1.payload.length ≤ 59)

/-- Every step keeps the Link Port lawful: the gap timer runs in a frame alone, the running sum is that of the bytes
received, the slot is filled only while a reply is sent, and every reply on TXD is a correct frame (R169 to R176). -/
def Obligations.StepsKeepTheLinkLawful : Prop :=
  ∀ s t : State, s.link.lawful → step s = .next t → t.link.lawful

/-! ## Resets -/

/-- POWER_ON, BROWNOUT and PIN_RESET set every block to its full-reset values in any state; a supply reset keeps its
kind against RST# and takes it over from RST#, and RESET_RELEASE starts the interval, the Case Clock and the cause;
the end of the interval begins operation and the first sensor set-up; until then SCS# and TXD are high and SCK low
(R89, R165, R182, R183, R184). The merging of two supply sources is read from R165 and R183 (log entry 12). -/
def Obligations.FullResetsAndTheirRelease : Prop :=
  ∀ s : State,
    (exec .powerOn s = .next (State.fullReset (.held .powerOn) s.cause s.inputs s.drawn s.pending)) ∧
    (exec .brownout s = .next (State.fullReset
      (.held (if s.phase = .held .powerOn then .powerOn else .brownout)) s.cause s.inputs s.drawn s.pending)) ∧
    (exec .pinReset s = .next (State.fullReset
      (.held (if s.phase = .held .powerOn then .powerOn else if s.phase = .held .brownout then .brownout else .pin))
      s.cause s.inputs s.drawn s.pending)) ∧
    (s.phase = .held .powerOn →
      exec .resetRelease s =
        .next (State.fullReset (.startUp .powerOn 250) .powerOn s.inputs s.drawn s.pending)) ∧
    (s.phase = .held .brownout →
      exec .resetRelease s =
        .next (State.fullReset (.startUp .brownout 250) .brownout s.inputs s.drawn s.pending)) ∧
    (s.phase = .held .pin →
      exec .resetRelease s = .next (State.fullReset (.startUp .pin 20) .pin s.inputs s.drawn s.pending)) ∧
    (∀ kind ends, s.phase = .startUp kind ends → reached s.clock ends = true →
      exec .startUpIntervalEnd s =
        .next (((s.taken .startUpIntervalEnd).setPhase .operating).setMotion
          { s.motion with
            sensor := .setup, port := .settingUp, window := .idle, firstSetup := true, setupEntry := s.clock })) ∧
    (s.phase ≠ .operating → ∀ place, (s.spiPins place).scsHigh = true ∧ (s.spiPins place).sckHigh = false ∧
      s.txdHigh place = true)

/-- The values that the manual states for a full reset, at the model's reset state, in every block, and the outputs at
rest, SCS# and TXD high and SCK low among them (R28 with 1.2, R47, R67, R87, R88, R108, R130, R152, R163, R188, R206,
R210). That this state is the release of a POWER_ON reset, its cause recorded and its 250 ms interval begun (R182,
R184), is the model's choice (log entry 10). -/
def Obligations.ResetLeavesTheStatedValues : Prop :=
  let s := State.reset
  (s.clock = 0 ∧ s.cause = .powerOn ∧ s.phase = .startUp .powerOn 250) ∧
  (∀ b, (s.bay b).state = .vacant ∧ (s.bay b).intent = .off ∧
    (s.bay b).desc =
      { access := .absent, motionLimit := .still, peakDraw := 40, runDraw := 14, speedCode := 720, pulses := 2,
        tolerance := 8, settleCount := 16, rampStart := 16, rampStep := 20, spinupTimeout := 15, loadTimeout := 50,
        unloadTimeout := 30, stopTimeout := 30 } ∧
    (s.bay b).priority = 0 ∧ (s.bay b).mark = none ∧ (s.bay b).stopMark = false ∧ (s.bay b).reason = none ∧
    (s.bay b).touched = false ∧ (s.bay b).seated = false ∧ (s.bay b).seatCount = 0 ∧ (s.bay b).duty = 0 ∧
    (s.bay b).spwr = 0 ∧ s.spwrHigh b = 0 ∧
    (s.bay b).hld = false ∧ (s.bay b).lastTach = 0 ∧ (s.bay b).inBand = 0 ∧ (s.bay b).loadPermission = false ∧
    (s.bay b).stopHeld = false ∧ (s.bay b).entryTime = 0 ∧ (s.bay b).edgeRef = none ∧ (s.bay b).offBand = 0 ∧
    (s.bay b).watchArmed = true ∧ (s.bay b).target = 4167 ∧ (s.bay b).target - (s.bay b).half = 4037 ∧
    (s.bay b).target + (s.bay b).half = 4297 ∧ (s.bay b).target - (s.bay b).faultHalf = 3907 ∧
    (s.bay b).target + (s.bay b).faultHalf = 4427 ∧ (s.bay b).prkLevel = true ∧ (s.bay b).prkSample = true ∧
    (s.bay b).prkAgree = 0 ∧ s.bay b = (s.bay b).timersIdle ∧ atBay s.arbiter.charges b = 0 ∧
    atBay s.policy.loadPermission b = false ∧ atBay s.policy.flightPermission b = false ∧
    atBay s.policy.table b = { access := .absent, motionLimit := .still }) ∧
  (s.arbiter.queue = [] ∧ s.arbiter.mode = .fixed ∧ s.arbiter.spacing = 50 ∧ s.arbiter.mainsBudget = 160 ∧
    s.arbiter.batteryBudget = 80 ∧ s.arbiter.source = .battery ∧ s.arbiter.budget = 80 ∧
    (∀ level, s.arbiter.pointer level = 0) ∧ s.arbiter.spacingTimer = .idle ∧ s.arbiter.gateOpen = false) ∧
  (s.motion.sensor = .setup ∧ s.motion.firstSetup = true ∧ s.motion.port = .idle ∧ s.motion.watch = .idle ∧
    s.motion.window = .idle ∧ s.motion.retry = .idle ∧ s.motion.gx = 0 ∧ s.motion.gy = 0 ∧ s.motion.gz = 0 ∧
    s.motion.ring = [] ∧ s.motion.sampleCounter = 0 ∧
    s.motion.runLength = 0 ∧ s.motion.priming = 0 ∧ s.motion.primed = false ∧ s.motion.sum = 0 ∧
    s.motion.freefallRun = 0 ∧ s.motion.freefallReported = false ∧ s.motion.tilt = .level ∧
    s.motion.cls = .unprimed ∧ s.motion.quiet = .runningUnset ∧ s.motion.multiplier = 1 ∧
    s.motion.episodes = [] ∧ s.motion.sequence = 0 ∧
    s.motion.settings =
      { gravityShift := 7, windowExponent := 5, shockCode := 24, freefallCode := 5, freefallCount := 16,
        tiltLimit := 192, rollOn := 48, roughOn := 160, hysteresis := 12, quietBase := 15, escalationSpan := 60 }) ∧
  (∀ place, (s.spiPins place).scsHigh = true ∧ (s.spiPins place).sckHigh = false ∧ s.txdHigh place = true) ∧
  (s.policy.classSeen = .unprimed ∧ s.policy.tiltSeen = .level ∧ s.policy.quietSeen = false ∧
    s.policy.supplySeen = .low ∧ s.policy.handleMode = .off ∧ s.policy.lidMode = .off ∧
    s.policy.handleState = false ∧ s.policy.lidState = false ∧ s.policy.handleCount = 0 ∧ s.policy.lidCount = 0 ∧
    s.policy.period = 0 ∧ s.policy.action = .park ∧
    s.policy.supervision = .off ∧ s.policy.gateOpen = false ∧ s.policy.stopStanding = false) ∧
  (s.supply.state = .none ∧ s.supply.entryTime = 0 ∧ s.supply.reading = 0 ∧ s.supply.warnIndex = 8 ∧
    s.supply.cutoffIndex = 10 ∧ s.supply.warnDwell = 0 ∧ s.supply.cutoffDwell = 0 ∧ s.supply.source = .battery ∧
    s.supply.agree = 0) ∧
  (s.link.rx = .hunt ∧ s.link.gap = .idle ∧ s.link.tx = .idle ∧ s.link.held = none ∧ s.link.overrun = false ∧
    s.link.lapseSeen = false) ∧
  (s.notices.queue = [] ∧ s.notices.pending = [] ∧ s.notices.mask = 0 ∧ s.attnLow = false ∧
    s.faults.record = none ∧ s.faults.more = false)

/-- The reset state has every law that the steps keep. -/
def Obligations.ResetStateIsLawful : Prop :=
  State.reset.link.lawful ∧ State.reset.baysLawful ∧ (∀ b, (State.reset.bay b).outputsFollow) ∧
  State.reset.chargesLawful ∧ State.reset.grantsDone ∧ State.reset.motionLawful ∧ State.reset.policyLawful ∧
  State.reset.supply.lawful ∧ State.reset.notices.lawful ∧ State.reset.faults.lawful ∧ State.reset.resetLawful

/-- Until the start-up interval has ended every block holds its full-reset values, and held in reset the Case Clock
stands at 0, whatever commands come (R183). That commands of blocks then have no effect is log entry 13. -/
def Obligations.StepsKeepResetValuesBeforeOperation : Prop :=
  ∀ s t : State, s.resetLawful → step s = .next t → t.resetLawful

/-! ## Bay requests -/

/-- BAY_SETUP: BAD_BAY above bay 11, BUSY from QUEUED to STOPPING, and otherwise the descriptor brought into range,
stored, echoed and copied to the policy's bay table, the touched flag cleared, and the bay moved by the access stored
(R1, R2, R3, R11, R25, R132). That the reply's flags do not show the setup's own BAY notice yet is the model's reading
(log entry 7). -/
def Obligations.BaySetupStoresAndActs : Prop :=
  ∀ (bay : Byte) (r : RawDescriptor) (s : State), s.canAnswer →
    let run := exec (.baySetup bay r) s
    let s1 := (s.taken (.baySetup bay r)).acceptedRequest
    (12 ≤ bay.toNat → run = .next (s1.sendReply 0x90 .badBay false [] false)) ∧
    (∀ b : BayId, bay = BitVec.ofNat 8 b.val →
      let d := Descriptor.ofRaw r
      let x := s.bay b
      let y : Bay := { x with desc := d, touched := false }
      let notice (state : Byte) := [Instr.noticePost (.bay b) s.clock { b0 := state, b1 := 0, b2 := 0, b3 := 0 }]
      let done (t : State) : Host.Outcome State Fault Refusal :=
        .next ((t.policyTable b d).sendReply 0x90 .ok (decide (d.toRaw ≠ r)) (bay :: d.toRaw.bytes) false)
      (x.state = .queued ∨ x.state.turning = true → run = .next (s1.sendReply 0x90 .busy false [] false)) ∧
      (x.state = .vacant → d.access = .absent → run = done (s1.setBay b y)) ∧
      (x.state = .vacant → d.access ≠ .absent →
        run = done ((s1.setBay b ({ y with intent := .off }.enterStopped s.clock)).handOn (notice 1))) ∧
      (x.state = .stopped ∨ x.state = .faulted → d.access = .absent →
        run = done ((s1.setBay b (y.enterVacant s.clock)).handOn (notice 0))) ∧
      (x.state = .stopped → d.access = .spinOnly →
        run = done (s1.setBay b { y with intent := if x.intent = .fly then .spin else x.intent })) ∧
      (x.state = .stopped → d.access = .full → run = done (s1.setBay b y)) ∧
      (x.state = .faulted → d.access ≠ .absent → run = done (s1.setBay b y)))

/-- A descriptor as written is brought into range field by field, peak draw before run draw, and a descriptor in range
is stored and described as it was written (R1). -/
def Obligations.DescriptorsAreBroughtIntoRange : Prop :=
  (∀ r : RawDescriptor,
    let d := Descriptor.ofRaw r
    let put (lo hi : Nat) (v : Nat) : Nat := if v < lo then lo else if hi < v then hi else v
    d.inRange ∧
    d.access = (if r.access = 0 then .absent else if r.access = 1 then .spinOnly else .full) ∧
    d.motionLimit = (if r.motionLimit = 0 then .still else .rolling) ∧
    d.peakDraw = put 1 60 r.peakDraw.toNat ∧ d.runDraw = put 1 d.peakDraw r.runDraw.toNat ∧
    d.speedCode = put 300 1500 r.speedCode.toNat ∧ d.pulses = put 1 8 r.pulses.toNat ∧
    d.tolerance = put 1 32 r.tolerance.toNat ∧ d.settleCount = put 4 64 r.settleCount.toNat ∧
    d.rampStart = put 8 64 r.rampStart.toNat ∧ d.rampStep = put 1 255 r.rampStep.toNat ∧
    d.spinupTimeout = put 1 60 r.spinupTimeout.toNat ∧ d.loadTimeout = put 5 200 r.loadTimeout.toNat ∧
    d.unloadTimeout = put 5 200 r.unloadTimeout.toNat ∧ d.stopTimeout = put 1 120 r.stopTimeout.toNat) ∧
  (∀ d : Descriptor, d.inRange → Descriptor.ofRaw d.toRaw = d)

/-- BAY_QUERY and BAY_DESCRIBE: BAD_BAY above bay 11, otherwise OK with the status record or the stored descriptor, and
no change of state but the reply and the supervision report (R4, R26, R27, R84, R192); the codes of states, intents,
accesses, motion limits and fault reasons are R190's. That the held reason SPIN_GATE is read from the gate as the
arbiter holds it is the model's reading (log entry 24). -/
def Obligations.BayQueriesReadTheRecord : Prop :=
  ((∀ st : BayState, stateCode st =
      match st with
      | .vacant => 0 | .stopped => 1 | .queued => 2 | .ramping => 3 | .settling => 4 | .spinning => 5 | .loading => 6
      | .flying => 7 | .unloading => 8 | .stopping => 9 | .faulted => 10) ∧
    (∀ i : Intent, intentCode i = match i with | .off => 0 | .spin => 1 | .fly => 2) ∧
    (∀ a : Access, accessCode a = match a with | .absent => 0 | .spinOnly => 1 | .full => 2) ∧
    (∀ l : MotionLimit, limitCode l = match l with | .still => 0 | .rolling => 1) ∧
    reasonCode? none = 0 ∧
    (∀ r : BayReason, reasonCode? (some r) = r.code ∧ r.code =
      match r with
      | .spinupTimeout => 1 | .settleTimeout => 2 | .speedLost => 3 | .loadTimeout => 4 | .stranded => 5
      | .stopTimeout => 6 | .unexpectedPark => 7 | .unseated => 8)) ∧
  ∀ (bay : Byte) (s : State), s.canAnswer →
    let q := (s.taken (.bayQuery bay)).acceptedRequest
    let d := (s.taken (.bayDescribe bay)).acceptedRequest
    (12 ≤ bay.toNat →
      exec (.bayQuery bay) s = .next (q.sendReply 0x93 .badBay false [] false) ∧
      exec (.bayDescribe bay) s = .next (d.sendReply 0x94 .badBay false [] false)) ∧
    (∀ b : BayId, bay = BitVec.ofNat 8 b.val →
      let x := s.bay b
      let e := x.desc
      let waits := b ∈ s.arbiter.queue
      let large := s.arbiter.budget < e.peakDraw
      exec (.bayDescribe bay) s = .next (d.sendReply 0x94 .ok false
        ([bay, accessCode e.access, limitCode e.motionLimit, BitVec.ofNat 8 e.peakDraw, BitVec.ofNat 8 e.runDraw] ++
          le16 (BitVec.ofNat 16 e.speedCode) ++
          [BitVec.ofNat 8 e.pulses, BitVec.ofNat 8 e.tolerance, BitVec.ofNat 8 e.settleCount,
           BitVec.ofNat 8 e.rampStart, BitVec.ofNat 8 e.rampStep, BitVec.ofNat 8 e.spinupTimeout,
           BitVec.ofNat 8 e.loadTimeout, BitVec.ofNat 8 e.unloadTimeout, BitVec.ofNat 8 e.stopTimeout]) false) ∧
      (∃ bits held : Byte,
        exec (.bayQuery bay) s = .next (q.sendReply 0x93 .ok false
          ([bay, stateCode x.state, intentCode x.intent, BitVec.ofNat 8 x.priority.val, accessCode e.access, bits,
            reasonCode? x.reason, reasonCode? (x.mark.map (·.reason)), BitVec.ofNat 8 x.duty] ++
            le16 (BitVec.ofNat 16 x.lastTach) ++ [BitVec.ofNat 8 x.inBand, held] ++ le32 (s.clock - x.entryTime))
          false) ∧
        (bits.getLsbD 0 = x.seated ∧ bits.getLsbD 1 = x.touched ∧ bits.getLsbD 2 = x.stopMark ∧
          bits.getLsbD 3 = x.hld ∧ bits.getLsbD 4 = x.prkLevel ∧ bits.toNat < 32) ∧
        (held.getLsbD 0 = true ↔ x.state = .queued ∧ s.arbiter.gateOpen = false) ∧
        (held.getLsbD 1 = true ↔ x.state = .spinning ∧ x.intent = .fly ∧ x.loadPermission = false) ∧
        (held.getLsbD 2 = true ↔ waits ∧ ¬ large ∧ ∃ c, s.candidate = some c ∧ s.fits c = false) ∧
        (held.getLsbD 3 = true ↔ waits ∧ ¬ large ∧ s.arbiter.spacingTimer ≠ .idle) ∧
        (held.getLsbD 4 = true ↔ waits ∧ large) ∧
        (held.getLsbD 5 = true ↔ x.state = .stopped ∧ x.seated = false ∧ x.intent ≠ .off) ∧ held.toNat < 64))

/-- BAY_AIM answers BAD_BAY for a set above bay 11, and otherwise aims each bay of the set in ascending order, with
CLAMPED for a target or priority above its range and one outcome for each bay, by R190's code (R6, R192); each outcome
is the first of R7 that applies, with intent and priority as its table says, and no other bay's intent, priority or
descriptor changes (R7, R9). That each evaluation is made at its event's place, bay by bay, is the model's choice (log
entry 6); that the reply's flags do not show yet the notice of a QUEUED bay aimed OFF is its reading (log entry 7). -/
def Obligations.AimsFollowTheOutcomeTable : Prop :=
  (∀ o : BayOutcome, outcomeCode o =
    match o with | .accepted => 0 | .same => 1 | .vacant => 2 | .notSeated => 3 | .faulted => 4 | .access => 5) ∧
  ((∀ (bays : Half) (target priority : Byte) (s : State), s.canAnswer →
     let s1 := (s.taken (.bayAim bays target priority)).acceptedRequest
     let run := exec (.bayAim bays target priority) s
     (4096 ≤ bays.toNat → run = .next (s1.sendReply 0x91 .badBay false [] false)) ∧
     (bays.toNat < 4096 → ∃ (goal : Intent) (level : Fin 4),
       goal = (if target = 0 then .off else if target = 1 then .spin else .fly) ∧
       level.val = min priority.toNat 3 ∧
       let r := aimAll goal level (bayIds.filter fun b => bays.getLsbD b.val) s1
       run = .next (r.2.sendReply 0x91 .ok (decide (2 < target.toNat) || decide (3 < priority.toNat))
         (le16 bays ++ r.1.map outcomeCode) false))) ∧
   (∀ (goal : Intent) (level : Fin 4) (s : State), aimAll goal level [] s = ([], s) ∧
     ∀ (b : BayId) (bs : List BayId),
       aimAll goal level (b :: bs) s =
         ((s.aimBay b goal level).1 :: (aimAll goal level bs (s.aimBay b goal level).2).1,
           (aimAll goal level bs (s.aimBay b goal level).2).2))) ∧
  (∀ (b : BayId) (target : Intent) (level : Fin 4) (s : State),
     let r := s.aimBay b target level
     let x := s.bay b
     let open1 := x.state ≠ .vacant ∧ x.state ≠ .faulted
     let open2 := open1 ∧ ¬ (target = .fly ∧ x.desc.access = .spinOnly)
     let open3 := open2 ∧ ¬ (target ≠ .off ∧ x.state = .stopped ∧ x.seated = false)
     (x.state = .vacant → r = (.vacant, s)) ∧ (x.state = .faulted → r = (.faulted, s)) ∧
     (open1 → target = .fly → x.desc.access = .spinOnly → r = (.access, s)) ∧
     (open2 → target ≠ .off → x.state = .stopped → x.seated = false →
       r = (.notSeated, s.setBay b { x with intent := target, priority := level })) ∧
     (open3 → x.intent = target →
       r.1 = .same ∧ (r.2.bay b).intent = target ∧ (r.2.bay b).priority = level) ∧
     (open3 → x.intent ≠ target →
       r.1 = .accepted ∧ (r.2.bay b).intent = target ∧ (r.2.bay b).priority = level) ∧
     (∀ i, i ≠ b → (r.2.bay i).intent = (s.bay i).intent ∧ (r.2.bay i).priority = (s.bay i).priority ∧
       (r.2.bay i).desc = (s.bay i).desc))

/-- What an ACCEPTED aim does at once, by the bay's state (R8, R12, R50, R62, R68, R69, R70). -/
def Obligations.AcceptedAimsActByState : Prop :=
  ∀ (b : BayId) (target : Intent) (level : Fin 4) (s : State), (s.aimBay b target level).1 = .accepted →
    let t := (s.aimBay b target level).2
    let x := s.bay b
    let y : Bay := { x with intent := target, priority := level }
    let s0 := s.setBay b y
    let stopping := (s.setBay b (y.enterStopping s.clock)).reportDraw b 0
    (x.state = .stopped → target ≠ .off →
      t = ((s.setBay b (y.enterQueued s.clock)).setArbiter
        { s.arbiter with queue := s.arbiter.queue ++ [b] }).evaluate) ∧
    (x.state = .stopped → target = .off → t = s0) ∧
    (x.state = .queued → target = .off →
      t = (((s.setBay b (y.enterStopped s.clock)).setArbiter
        { s.arbiter with queue := s.arbiter.queue.filter (· ≠ b) }).handOn
          [.noticePost (.bay b) s.clock { b0 := 1, b1 := 0, b2 := 0, b3 := 0 }]).evaluate) ∧
    (x.state = .queued → target ≠ .off → x.priority ≠ level → t = s0.evaluate) ∧
    (x.state = .queued → target ≠ .off → x.priority = level → t = s0) ∧
    (x.state = .ramping ∨ x.state = .settling ∨ x.state = .spinning → target = .off → t = stopping) ∧
    (x.state = .ramping ∨ x.state = .settling → target ≠ .off → t = s0) ∧
    (x.state = .spinning → target = .spin → t = s0) ∧
    (x.state = .spinning → target = .fly →
      t = if x.loadPermission = true ∧ x.prkLevel = true then s.setBay b (y.enterLoading s.clock) else s0) ∧
    (x.state = .loading ∨ x.state = .flying → target ≠ .fly → t = s.setBay b (y.enterUnloading s.clock)) ∧
    (x.state = .loading ∨ x.state = .flying → target = .fly → t = s0) ∧
    (x.state = .unloading ∨ x.state = .stopping → t = s0)

/-- BAY_CLEAR: BAD_BAY for a set above bay 11; otherwise each FAULTED bay of the set enters STOPPED with its notice and
has outcome ACCEPTED, each other bay has SAME, and nothing else changes (R21, R192). That the reply's flags do not show
the clear's own BAY notices yet is the model's reading (log entry 7). -/
def Obligations.ClearsReleaseFaultedBaysAlone : Prop :=
  ∀ (bays : Half) (s : State), s.canAnswer →
    let s1 := (s.taken (.bayClear bays)).acceptedRequest
    let run := exec (.bayClear bays) s
    (4096 ≤ bays.toNat → run = .next (s1.sendReply 0x92 .badBay false [] false)) ∧
    (bays.toNat < 4096 →
      let set := bayIds.filter fun b => bays.getLsbD b.val
      let faulted := set.filter fun b => decide ((s.bay b).state = .faulted)
      ∃ t : State,
        run = .next (t.sendReply 0x92 .ok false
          (le16 bays ++ set.map fun b => if (s.bay b).state = .faulted then 0 else 1) false) ∧
        (∀ b, t.bay b = if b ∈ faulted then (s.bay b).enterStopped s.clock else s.bay b) ∧
        t = { s1 with
          bays := t.bays
          inFlight := s1.inFlight ++
            faulted.map fun b => .noticePost (.bay b) s.clock { b0 := 1, b1 := 0, b2 := 0, b3 := 0 } })

/-! ## Bay states, spindle -/

/-- What entering each state sets in a bay's record, timers included (R10, R11, R13, R16, R19, R31, R37, R38, R42, R51,
R52, R56, R57). -/
def Obligations.StateEntriesSetTheRecord : Prop :=
  ∀ (x : Bay) (now : Clock) (reason : BayReason),
    let secs (n : Nat) := Timer.after now (n * 1000)
    let tens (n : Nat) := Timer.after now (10 * n)
    let still : Bay :=
      { x with
        rampTimer := .idle, spinupTimer := .idle, settleTimer := .idle, silenceTimer := .idle, quietTimer := .idle,
        stopTimer := .idle, loadTimer := .idle, unloadTimer := .idle, guard := .idle, duty := 0, hld := false,
        mark := none, stopMark := false, entryTime := now }
    x.enterQueued now = { x with state := .queued, entryTime := now, hld := false } ∧
    x.enterRamping now =
      { x with
        state := .ramping, entryTime := now, hld := false, target := x.desc.target,
        half := x.desc.target * x.desc.tolerance / 256, faultHalf := x.desc.target * (2 * x.desc.tolerance) / 256,
        duty := x.desc.rampStart, edgeRef := none, lastTach := 0, inBand := 0,
        spinupTimer := secs x.desc.spinupTimeout,
        rampTimer := if x.desc.rampStart < 64 then .after now x.desc.rampStep else .idle } ∧
    x.enterSettling now =
      { x with
        state := .settling, entryTime := now, hld := false, duty := 64, rampTimer := .idle, spinupTimer := .idle,
        inBand := 0, settleTimer := .after now 3000 } ∧
    x.enterSpinningProven now =
      { x with
        state := .spinning, entryTime := now, hld := false, settleTimer := .idle, offBand := 0, watchArmed := true,
        silenceTimer := .after now 100 } ∧
    x.enterSpinningUnloaded now =
      { x with state := .spinning, entryTime := now, hld := false, unloadTimer := .idle, guard := .idle } ∧
    x.enterLoading now =
      { x with state := .loading, entryTime := now, hld := true, loadTimer := tens x.desc.loadTimeout } ∧
    x.enterFlying now =
      { x with state := .flying, entryTime := now, hld := true, loadTimer := .idle, touched := true } ∧
    x.enterUnloading now =
      { x with
        state := .unloading, entryTime := now, hld := false, loadTimer := .idle,
        guard := .running (now + 2), unloadTimer := tens x.desc.unloadTimeout } ∧
    x.enterStopping now =
      { x with
        state := .stopping, entryTime := now, hld := false, duty := 0, rampTimer := .idle, spinupTimer := .idle,
        settleTimer := .idle, silenceTimer := .idle, unloadTimer := .idle, guard := .idle,
        stopTimer := secs x.desc.stopTimeout, quietTimer := .after now 500 } ∧
    x.enterStopped now = { still with state := .stopped, reason := none } ∧
    x.enterFaulted reason now = { still with state := .faulted, reason := some reason, intent := .off } ∧
    x.enterVacant now = { still with state := .vacant, reason := none, intent := .off }

/-- The target period and its bands, by R36's formulas, and their ranges over every descriptor in range. -/
def Obligations.SpeedBandsFitTheirField : Prop :=
  ∀ d : Descriptor, d.inRange →
    let q := d.speedCode * d.pulses
    let target := (6000000 + q / 2) / q
    let half := target * d.tolerance / 256
    let faultHalf := target * (2 * d.tolerance) / 256
    d.target = target ∧ d.halfWidth target = half ∧ d.faultHalfWidth target = faultHalf ∧
    500 ≤ target ∧ target ≤ 20000 ∧ 1 ≤ half ∧ target + faultHalf ≤ 25000 ∧
    (∀ (x : Bay) (period : Nat), x.target = target → x.half = half → x.faultHalf = faultHalf →
      (x.inSpeedBand period = true ↔ target ≤ period + half ∧ period ≤ target + half) ∧
      (x.inFaultBand period = true ↔ target ≤ period + faultHalf ∧ period ≤ target + faultHalf) ∧
      x.inSpeedBand 65535 = false ∧ x.inFaultBand 65535 = false)

/-- TACH_EDGE: ignored where TACHn is not observed and within 100 µs of the edge reference; otherwise the edge becomes
the reference and restarts the silence timer or the tach quiet interval, and with a reference before it gives a period,
saturated at 65535, that is held and tested (R34, R35, R40, R43). How an edge is timed, and that an edge not later than
the reference is a glitch, is the model's reading (log entry 2). -/
def Obligations.TachEdgesGivePeriods : Prop :=
  ∀ (b : BayId) (us : Nat) (s : State), s.phase = .operating →
    let run := exec (.tachEdge b us) s
    let s0 := s.taken (.tachEdge b us)
    let x := s.bay b
    let y : Bay :=
      { x with
        edgeRef := some { ms := s.clock, us := us }
        silenceTimer := if x.state.proven = true then .after s.clock 100 else x.silenceTimer
        quietTimer := if x.state = .stopping then .after s.clock 500 else x.quietTimer }
    (x.state.turning = false → run = .next s0) ∧
    (x.state.turning = true → x.edgeRef = none → run = .next (s0.setBay b y)) ∧
    (∀ ref, x.state.turning = true → x.edgeRef = some ref →
      let elapsed := since s.clock ref.ms * 1000 + us - ref.us
      (elapsed < 100 → run = .next s0) ∧
      (100 ≤ elapsed →
        run = .next ((s0.setBay b { y with lastTach := min 65535 elapsed }).testPeriod b (min 65535 elapsed))))

/-- What a period does in each state (R14, R35, R37, R38, R39, R41, R46). -/
def Obligations.PeriodsAreTestedByState : Prop :=
  ∀ (b : BayId) (period : Nat) (s : State),
    let x := s.bay b
    let t := s.testPeriod b period
    let run := if x.inFaultBand period = true then 0 else min 3 (x.offBand + 1)
    (x.state = .ramping → x.inSpeedBand period = false → t = s) ∧
    (x.state = .ramping → x.inSpeedBand period = true → t = s.setBay b (x.enterSettling s.clock)) ∧
    (x.state = .settling → x.inSpeedBand period = false → t = s.setBay b { x with inBand := 0 }) ∧
    (x.state = .settling → x.inSpeedBand period = true → x.inBand + 1 < x.desc.settleCount →
      t = s.setBay b { x with inBand := x.inBand + 1 }) ∧
    (x.state = .settling → x.inSpeedBand period = true → x.desc.settleCount ≤ x.inBand + 1 →
      t = (((s.setBay b ({ x with inBand := x.inBand + 1 }.enterSpinningProven s.clock)).handOn
        [.noticePost (.bay b) s.clock { b0 := 5, b1 := reasonCode? x.reason, b2 := 0, b3 := 0 }]).reportDraw b
          x.desc.runDraw).afterSpinning b) ∧
    (x.state.proven = true → (run < 3 ∨ x.watchArmed = false) → t = s.setBay b { x with offBand := run }) ∧
    (x.state.proven = true → run = 3 → x.watchArmed = true →
      t = (s.setBay b { x with offBand := run }).speedLost b) ∧
    (x.state = .stopping → t = s)

/-- RAMP_STEP raises the duty by 1 and restarts the timer below 64; PWM_PERIOD_BOUNDARY puts the programmed duty on
SPWRn (R30, R32). Speed lost spends the watch and acts by the state (R17, R41, R63), and the silence timer finds it
(R40); after its expiry the timer stands idle until the next accepted edge (log entry 16). -/
def Obligations.RampsAndSilenceActOnTheSpindle : Prop :=
  (∀ (b : BayId) (s : State), s.phase = .operating →
     let x := s.bay b
     (exec (.pwmPeriodBoundary b) s = .next ((s.taken (.pwmPeriodBoundary b)).setBay b { x with spwr := x.duty })) ∧
     (∀ e, x.state = .ramping → x.rampTimer = .running e → reached s.clock e = true →
       exec (.rampStep b) s = .next ((s.taken (.rampStep b)).setBay b
         { x with
           duty := x.duty + 1
           rampTimer := if x.duty + 1 < 64 then .after s.clock x.desc.rampStep else .idle }))) ∧
  ((∀ (b : BayId) (s : State),
     let x := s.bay b
     let y : Bay :=
       { x with
         watchArmed := false
         mark := if x.mark = none then some { reason := .speedLost, found := x.state } else x.mark }
     (x.state = .spinning → s.speedLost b = (s.setBay b (y.enterStopping s.clock)).reportDraw b 0) ∧
     (x.state = .loading ∨ x.state = .flying → s.speedLost b = s.setBay b (y.enterUnloading s.clock)) ∧
     (x.state = .unloading → s.speedLost b = s.setBay b y)) ∧
   (∀ (b : BayId) (s : State) (e : Clock), s.phase = .operating → (s.bay b).state.proven = true →
     (s.bay b).silenceTimer = .running e → reached s.clock e = true →
     let s0 := (s.taken (.silenceTimerExpiry b)).setBay b { s.bay b with silenceTimer := .idle }
     exec (.silenceTimerExpiry b) s = .next (if (s.bay b).watchArmed = true then s0.speedLost b else s0)))

/-- The expiries of the spin-up, settle, load and unload timers mark the bay and send it on its way (R14, R17, R33, R38,
R53, R59, R65). -/
def Obligations.TimeoutsMarkTheBay : Prop :=
  ∀ (b : BayId) (s : State) (e : Clock), s.phase = .operating → reached s.clock e = true →
    let x := s.bay b
    let marked (reason : BayReason) (found : BayState) : Bay :=
      { x with mark := if x.mark = none then some { reason := reason, found := found } else x.mark }
    (x.state = .ramping → x.spinupTimer = .running e →
      exec (.spinupTimeout b) s = .next (((s.taken (.spinupTimeout b)).setBay b
        ((marked .spinupTimeout .ramping).enterStopping s.clock)).reportDraw b 0)) ∧
    (x.state = .settling → x.settleTimer = .running e →
      exec (.settleTimeout b) s = .next (((s.taken (.settleTimeout b)).setBay b
        ((marked .settleTimeout .settling).enterStopping s.clock)).reportDraw b 0)) ∧
    (x.state = .loading → x.loadTimer = .running e →
      exec (.loadTimeout b) s = .next ((s.taken (.loadTimeout b)).setBay b
        ((marked .loadTimeout .loading).enterUnloading s.clock))) ∧
    (x.state = .unloading → x.unloadTimer = .running e →
      exec (.unloadTimeout b) s = .next ((((s.taken (.unloadTimeout b)).setBay b
        ({ x with mark := some { reason := .stranded, found := .unloading } }.enterStopping s.clock)).reportDraw b
          0).handOn [.strandingReport b]))

/-- Tach quiet takes a marked bay to FAULTED and a clean one to STOPPED, and on into the queue when it is seated and
wanted; the stop timer takes any STOPPING bay to FAULTED (R12, R16, R19, R43, R44). -/
def Obligations.StoppingEndsQuietOrFaulted : Prop :=
  ∀ (b : BayId) (s : State) (e : Clock), s.phase = .operating → s.queueLawful → reached s.clock e = true →
    (s.bay b).state = .stopping →
    let x := s.bay b
    let q := s.taken (.tachQuiet b)
    let fault (t : State) (reason : BayReason) (found : BayState) : State :=
      ((t.setBay b (x.enterFaulted reason s.clock)).reportDraw b 0).handOn
        [.faultCapture (.bay b reason found s.clock x.lastTach x.prkLevel),
         .noticePost (.bay b) s.clock { b0 := 10, b1 := reason.code, b2 := 0, b3 := 0 }]
    let stopped := (q.setBay b (x.enterStopped s.clock)).handOn
      [.noticePost (.bay b) s.clock { b0 := 1, b1 := 0, b2 := 0, b3 := 0 }]
    (∀ m, x.quietTimer = .running e → x.mark = some m →
      exec (.tachQuiet b) s = .next (fault q m.reason m.found)) ∧
    (x.quietTimer = .running e → x.mark = none → (x.seated = false ∨ x.intent = .off) →
      exec (.tachQuiet b) s = .next stopped) ∧
    (x.quietTimer = .running e → x.mark = none → x.seated = true → x.intent ≠ .off →
      exec (.tachQuiet b) s = .next (stopped.joinQueue b)) ∧
    (x.stopTimer = .running e →
      exec (.stopTimeout b) s = .next (fault (s.taken (.stopTimeout b)) .stopTimeout .stopping))

/-! ## Heads, orders, seats -/

/-- A change of the PRK level acts by the bay's state (R17, R49, R52, R60, R61). That a release in FLYING and an
assertion in SPINNING or LOADING, which R49 says cannot occur, change the level alone is the model's reading (log entry
26). -/
def Obligations.ParkedSenseActsByState : Prop :=
  ∀ (b : BayId) (s : State), s.phase = .operating →
    let x := s.bay b
    let off : Bay := { x with prkLevel := false, prkAgree := 0 }
    let on : Bay := { x with prkLevel := true, prkAgree := 0 }
    let r := s.taken (.prkRelease b)
    let a := s.taken (.prkAssertion b)
    (x.prkLevel = true →
      (x.state = .spinning → exec (.prkRelease b) s = .next (r.setBay b (off.enterUnloading s.clock))) ∧
      (x.state = .loading → exec (.prkRelease b) s = .next ((r.setBay b (off.enterFlying s.clock)).handOn
        [.noticePost (.bay b) s.clock { b0 := 7, b1 := reasonCode? x.reason, b2 := 0, b3 := 0 }])) ∧
      (x.state ≠ .spinning → x.state ≠ .loading → exec (.prkRelease b) s = .next (r.setBay b off))) ∧
    (x.prkLevel = false →
      (x.state = .flying → exec (.prkAssertion b) s = .next (a.setBay b
        ({ on with mark := if x.mark = none then some { reason := .unexpectedPark, found := .flying } else x.mark }
          |>.enterUnloading s.clock))) ∧
      (x.state ≠ .flying → exec (.prkAssertion b) s = .next (a.setBay b on)))

/-- The unload guard passes 2 ms after the entry, and a completion test that finds it passed and the PRK level asserted
ends the unload, back to SPINNING for a clean wanted bay and to STOPPING otherwise; before that a test changes nothing
(R15, R56, R57). A bay enters LOADING from SPINNING when its intent is FLY, its load permission true and its PRK level
asserted, and not otherwise; a bay that comes to SPINNING with its PRK level released enters UNLOADING at once (R50,
R51, R61). -/
def Obligations.LoadsAndUnloadsFollowTheirTests : Prop :=
  (∀ (b : BayId) (s : State), s.phase = .operating → (s.bay b).state = .unloading →
     let x := s.bay b
     let t := s.taken (.unloadCompletion b)
     let run := exec (.unloadCompletion b) s
     (∀ e, x.guard = .running e → reached s.clock e = true →
       exec (.unloadGuardExpiry b) s = .next ((s.taken (.unloadGuardExpiry b)).setBay b { x with guard := .passed })) ∧
     (x.guard.over s.clock = false ∨ x.prkLevel = false → run = .next t) ∧
     (x.guard.over s.clock = true → x.prkLevel = true →
       (x.mark = none → x.stopMark = false → x.intent ≠ .off →
         run = .next (((t.setBay b (x.enterSpinningUnloaded s.clock)).handOn
           [.noticePost (.bay b) s.clock { b0 := 5, b1 := reasonCode? x.reason, b2 := 0, b3 := 0 }]).loadTest b)) ∧
       (x.mark ≠ none ∨ x.stopMark = true ∨ x.intent = .off →
         run = .next ((t.setBay b (x.enterStopping s.clock)).reportDraw b 0)))) ∧
  (∀ (b : BayId) (s : State),
     let x := s.bay b
     s.loadTest b =
       (if x.state = .spinning ∧ x.intent = .fly ∧ x.loadPermission = true ∧ x.prkLevel = true then
         s.setBay b (x.enterLoading s.clock) else s) ∧
     s.afterSpinning b = (if x.prkLevel = true then s.loadTest b else s.setBay b (x.enterUnloading s.clock)))

/-- Forced-unload orders, stop orders, their lifting and load permission reports act by the bay's state (R20, R50, R54,
R58, R62, R64, R136, R137, R139). -/
def Obligations.OrdersActByState : Prop :=
  ∀ (b : BayId) (s : State), s.phase = .operating →
    let x := s.bay b
    let f := s.taken (.forcedUnloadOrder b)
    let o := s.taken (.stopOrder b)
    let marked : Bay := { x with stopHeld := true, stopMark := true }
    let up := x.state = .loading ∨ x.state = .flying
    (up → exec (.forcedUnloadOrder b) s =
      .next ((f.setBay b (x.enterUnloading s.clock)).handOn [.unloadReport b])) ∧
    (¬ up → exec (.forcedUnloadOrder b) s = .next f) ∧
    (x.state = .ramping ∨ x.state = .settling ∨ x.state = .spinning → exec (.stopOrder b) s =
      .next ((o.setBay b (marked.enterStopping s.clock)).reportDraw b 0)) ∧
    (up → exec (.stopOrder b) s =
      .next ((o.setBay b (marked.enterUnloading s.clock)).handOn [.unloadReport b])) ∧
    (x.state = .unloading → exec (.stopOrder b) s = .next (o.setBay b marked)) ∧
    (x.state = .vacant ∨ x.state = .stopped ∨ x.state = .queued ∨ x.state = .stopping ∨ x.state = .faulted →
      exec (.stopOrder b) s = .next (o.setBay b { x with stopHeld := true })) ∧
    (exec (.stopOrderLift b) s = .next ((s.taken (.stopOrderLift b)).setBay b { x with stopHeld := false })) ∧
    (exec (.loadPermissionReport b false) s =
      .next ((s.taken (.loadPermissionReport b false)).setBay b { x with loadPermission := false })) ∧
    (exec (.loadPermissionReport b true) s =
      .next (((s.taken (.loadPermissionReport b true)).setBay b { x with loadPermission := true }).loadTest b))

/-- UNSEAT and RESEAT act by the bay's state (R12, R19, R23, R24, R45, R66). That a RESEAT in QUEUED to STOPPING, where
R24 says that a bay cannot be reseated, sets the seat alone is the model's reading (log entry 26). -/
def Obligations.SeatEventsActByState : Prop :=
  ∀ (b : BayId) (s : State), s.phase = .operating → s.queueLawful →
    let x := s.bay b
    let u := s.taken (.unseat b)
    let gone : Bay := { x with seated := false, seatCount := 0 }
    let here := (s.taken (.reseat b)).setBay b { x with seated := true, seatCount := 0 }
    (x.seated = true →
      (x.state = .vacant ∨ x.state = .stopped ∨ x.state = .faulted →
        exec (.unseat b) s = .next (u.setBay b gone)) ∧
      (x.state = .queued → exec (.unseat b) s =
        .next ((((u.setBay b ({ gone with intent := .off }.enterStopped s.clock)).setArbiter
          { s.arbiter with queue := s.arbiter.queue.filter (· ≠ b) }).handOn
            [.noticePost (.bay b) s.clock { b0 := 1, b1 := 0, b2 := 0, b3 := 0 }]).evaluate)) ∧
      (x.state.turning = true → exec (.unseat b) s =
        .next (((u.setBay b (gone.enterFaulted .unseated s.clock)).reportDraw b 0).handOn
          [.faultCapture (.bay b .unseated x.state s.clock x.lastTach x.prkLevel),
           .noticePost (.bay b) s.clock { b0 := 10, b1 := 8, b2 := 0, b3 := 0 }]))) ∧
    (x.seated = false →
      (x.state = .stopped → x.intent ≠ .off → exec (.reseat b) s = .next (here.joinQueue b)) ∧
      (x.state ≠ .stopped ∨ x.intent = .off → exec (.reseat b) s = .next here))

/-! ## Laws that every step keeps: bays and arbiter -/

/-- Every step keeps the bay laws: R5's three, the queue of QUEUED bays (R68), seats, marks, reasons, PRK levels and
timers by state (R7, R16, R17, R19, R49); and, with the queue of QUEUED bays, every step keeps every bay's outputs on
its state: HLD raised exactly in LOADING and FLYING, the duty as R10's table has it, the ramp within its range (R10,
R13, R14, R32). -/
def Obligations.StepsKeepBaysLawful : Prop :=
  (∀ s t : State, s.baysLawful → step s = .next t → t.baysLawful) ∧
  (∀ s t : State, s.queueLawful → (∀ b, (s.bay b).outputsFollow) → step s = .next t →
     ∀ b, (t.bay b).outputsFollow)

/-- With the queue of QUEUED bays (StepsKeepBaysLawful), every step keeps every charge at the draw of its bay's state,
and C within 0..255 (R10, R46, R71). -/
def Obligations.StepsKeepChargesOnStates : Prop :=
  ∀ s t : State, s.queueLawful → s.chargesLawful → step s = .next t → t.chargesLawful

/-- No step leaves a grant undone: whenever the gate is open and the spacing timer idle, no candidate fits (R72). -/
def Obligations.StepsLeaveNoGrantUndone : Prop :=
  ∀ s t : State, s.queueLawful → s.grantsDone → step s = .next t → t.queueLawful ∧ t.grantsDone

/-! ## Spin Arbiter -/

/-- The candidate is the first bay of the highest level among the queued bays that are not OVERSIZE: by bay number in
FIXED mode, counting up from the level's pointer and wrapping in ROTATE mode (R76, R77). -/
def Obligations.CandidateIsFirstOfHighestLevel : Prop :=
  ∀ (s : State) (b : BayId),
    let able (i : BayId) : Prop := i ∈ s.arbiter.queue ∧ (s.bay i).desc.peakDraw ≤ s.arbiter.budget
    let place (i : BayId) : Nat :=
      match s.arbiter.mode with
      | .fixed => i.val
      | .rotate => (i.val + 12 - (s.arbiter.pointer (s.bay b).priority).val) % 12
    (s.candidate = some b ↔ able b ∧ ∀ i, able i → (s.bay i).priority ≤ (s.bay b).priority ∧
      ((s.bay i).priority = (s.bay b).priority → place b ≤ place i)) ∧
    (s.candidate = none ↔ ∀ i, ¬ able i)

/-- A grant: the entry leaves the queue, the bay enters RAMPING and is charged its peak draw, the level's pointer moves
in ROTATE mode, the spacing timer starts with spacing above 0, and C does not exceed B (R13, R71, R77, R78, R82). A bay
that holds the stop order standing takes the stop mark and enters STOPPING at once, its peak draw released (R139). An
evaluation grants nothing behind a closed gate, while the spacing timer runs, without a candidate or with one that does
not fit; otherwise it grants the candidate and goes on from there, which with spacing above 0 ends it (R75, R79). -/
def Obligations.EvaluationsGrantWithinTheBudget : Prop :=
  (∀ (s : State) (b : BayId),
     let a := s.arbiter
     let x := s.bay b
     let granted : Arbiter :=
       { a with
         queue := a.queue.filter (· ≠ b)
         charges := putBay a.charges b x.desc.peakDraw
         pointers := if a.mode = .rotate then a.pointers.set x.priority.val (b + 1) x.priority.isLt else a.pointers
         spacingTimer := if 0 < a.spacing then .after s.clock (a.spacing * 10) else a.spacingTimer }
     (s.fits b = true ↔ a.committed + x.desc.peakDraw ≤ a.budget) ∧
     (x.stopHeld = false → s.grant b = (s.setBay b (x.enterRamping s.clock)).setArbiter granted) ∧
     (x.stopHeld = true → s.grant b =
       (s.setBay b ({ x.enterRamping s.clock with stopMark := true }.enterStopping s.clock)).setArbiter
         { granted with charges := putBay granted.charges b 0 }) ∧
     (s.fits b = true → granted.committed ≤ granted.budget ∧ (s.grant b).arbiter.committed ≤ a.budget)) ∧
  (∀ s : State,
     (s.arbiter.gateOpen = false ∨ s.arbiter.spacingTimer ≠ .idle → s.evaluate = s) ∧
     (s.candidate = none → s.evaluate = s) ∧
     (∀ b, s.candidate = some b → s.fits b = false → s.evaluate = s) ∧
     (∀ b, s.arbiter.gateOpen = true → s.arbiter.spacingTimer = .idle → s.candidate = some b → s.fits b = true →
       s.evaluate = (s.grant b).evaluate ∧ (0 < s.arbiter.spacing → s.evaluate = s.grant b)))

/-- Draw reports, and what the arbiter takes from policy, Supply Monitor and timer (R46, R71, R72, R73, R82, R83). -/
def Obligations.ArbiterActsOnItsEvents : Prop :=
  ∀ s : State,
    let a := s.arbiter
    (∀ (b : BayId) (charge : Nat),
      let t := s.setArbiter { a with charges := putBay a.charges b charge }
      (charge = atBay a.charges b → s.reportDraw b charge = s) ∧
      (charge < atBay a.charges b → s.reportDraw b charge = t.evaluate) ∧
      (atBay a.charges b < charge → s.reportDraw b charge = t)) ∧
    (s.phase = .operating →
      (∀ opened, (opened = false ∨ a.gateOpen = true) → exec (.spinGateReport opened) s =
        .next ((s.taken (.spinGateReport opened)).setArbiter { a with gateOpen := opened })) ∧
      (a.gateOpen = false → exec (.spinGateReport true) s =
        .next ((s.taken (.spinGateReport true)).setArbiter { a with gateOpen := true }).evaluate) ∧
      (∀ src, exec (.sourceReport src) s =
        .next ((s.taken (.sourceReport src)).setArbiter { a with source := src }).evaluate) ∧
      (∀ e, a.spacingTimer = .running e → reached s.clock e = true → exec .spacingTimerExpiry s =
        .next ((s.taken .spacingTimerExpiry).setArbiter { a with spacingTimer := .idle }).evaluate))

/-- POWER_SETUP stores its fields brought into range, clears the dwell count of a changed index, echoes the record with
CLAMPED when a field was changed, and makes one evaluation (R77, R82, R85, R161, R193). -/
def Obligations.PowerSetupStoresAndEvaluates : Prop :=
  ∀ (r : RawPower) (s : State), s.canAnswer →
    let s1 := (s.taken (.powerSetup r)).acceptedRequest
    let put (lo hi : Nat) (v : Nat) : Nat := if v < lo then lo else if hi < v then hi else v
    let warn := put 0 15 r.warnIndex.toNat
    let cutoff := put 0 15 r.cutoffIndex.toNat
    let a : Arbiter :=
      { s.arbiter with
        mode := if r.mode = 0 then .fixed else .rotate, spacing := r.spacing.toNat,
        mainsBudget := put 1 255 r.mainsBudget.toNat, batteryBudget := put 1 255 r.batteryBudget.toNat }
    let m : Supply :=
      { s.supply with
        warnIndex := warn, cutoffIndex := cutoff,
        warnDwell := if warn = s.supply.warnIndex then s.supply.warnDwell else 0,
        cutoffDwell := if cutoff = s.supply.cutoffIndex then s.supply.cutoffDwell else 0 }
    exec (.powerSetup r) s = .next (((s1.setArbiter a).setSupply m).evaluate.sendReply 0xB0 .ok
      (decide (2 ≤ r.mode.toNat ∨ r.mainsBudget = 0 ∨ r.batteryBudget = 0 ∨ 16 ≤ r.warnIndex.toNat ∨
        16 ≤ r.cutoffIndex.toNat))
      [if r.mode = 0 then 0 else 1, r.spacing, BitVec.ofNat 8 a.mainsBudget, BitVec.ofNat 8 a.batteryBudget,
       BitVec.ofNat 8 warn, BitVec.ofNat 8 cutoff] false)

/-! ## Motion Unit -/

/-- The sensor's set-up, its three endings, the retry and the DRDY edges (R89, R90, R91, R94). The expiry of the DRDY
watch loses the sensor: LOST, the retry timer, a capture, the SENSOR notice, the measure cleared, the class UNPRIMED
(R92, R93, R113, R114). A read in progress completes first: the expiry waits for its arrival (log entry 17). At each
half of a bit of what the port is doing, SCS# is low from the start to the end of a transfer and high otherwise, SCK
low in the first half of each bit and high in the second, low otherwise, and SDO the bytes of 5.2, most significant
bit first (R88); the place in a transfer is no state of the model (log entry 15), and that SCS# stays high for one
half of a bit between the transfers of a SETUP is the model's choice (log entry 31). -/
def Obligations.SensorSetUpEdgesAndLoss : Prop :=
  (∀ (s : State) (n : Nat), s.phase = .operating →
     let pins := s.spiPins n
     (s.motion.port = .idle → pins.scsHigh = true ∧ pins.sckHigh = false) ∧
     (s.motion.port = .reading →
       (n < 112 → pins.scsHigh = false ∧ pins.sckHigh = decide (n % 2 = 1) ∧
         (n < 16 → pins.sdo = some ((176 : Byte).getLsbD (7 - n / 2)))) ∧
       (112 ≤ n → pins.scsHigh = true ∧ pins.sckHigh = false)) ∧
     (s.motion.port = .settingUp →
       (n < 132 → n % 33 < 32 → pins.scsHigh = false ∧ pins.sckHigh = decide (n % 33 % 2 = 1) ∧
         ∀ b, ([33, 3, 34, 6, 35, 1, 168] : List Byte)[2 * (n / 33) + n % 33 / 16]? = some b →
           pins.sdo = some (b.getLsbD (7 - n % 33 % 16 / 2))) ∧
       (132 ≤ n ∨ n % 33 = 32 → pins.scsHigh = true ∧ pins.sckHigh = false))) ∧
  (∀ s : State, s.phase = .operating →
     let m := s.motion
     let ten := Timer.after s.clock 10
     let failed (t : State) : State :=
       (t.setMotion { m with
         sensor := .lost, port := .idle, window := .idle, firstSetup := false,
         retry := .running (m.setupEntry + 100) }).handOn
           (if m.firstSetup = true then
             [.faultCapture (.sensorLost s.clock),
              .noticePost .sensor s.clock { b0 := 2, b1 := 0, b2 := 0, b3 := 0 }] else [])
     (m.sensor = .setup → m.port = .settingUp →
       exec (.identityReadComplete 77) s =
         .next ((s.taken (.identityReadComplete 77)).setMotion { m with port := .idle, window := ten }) ∧
       (∀ id, id ≠ 77 → exec (.identityReadComplete id) s = .next (failed (s.taken (.identityReadComplete id))))) ∧
     (∀ e, m.sensor = .setup → m.window = .running e → reached s.clock e = true →
       exec .setupWindowExpiry s = .next (failed (s.taken .setupWindowExpiry))) ∧
     (∀ e, m.sensor = .lost → m.retry = .running e → reached s.clock e = true →
       exec .retryTimerExpiry s = .next ((s.taken .retryTimerExpiry).setMotion
         { m with
           sensor := .setup, port := .settingUp, window := .idle, firstSetup := false, setupEntry := s.clock,
           retry := .after s.clock 100 })) ∧
     (m.sensor = .running →
       exec .drdyEdge s = .next ((s.taken .drdyEdge).setMotion { m with watch := ten, port := .reading })) ∧
     (m.sensor = .setup → m.window ≠ .idle →
       exec .drdyEdge s = .next (((s.taken .drdyEdge).setMotion
         { m with
           sensor := .running, port := .reading, window := .idle, retry := .idle, watch := ten, firstSetup := false,
           runLength := 0, priming := 0, primed := false }).handOn
             (if m.firstSetup = true then []
              else [.noticePost .sensor s.clock { b0 := 1, b1 := 0, b2 := 0, b3 := 0 }]))) ∧
     (m.sensor = .lost ∨ (m.sensor = .setup ∧ m.window = .idle) → exec .drdyEdge s = .next (s.taken .drdyEdge))) ∧
  (∀ (s : State) (e : Clock), s.phase = .operating → s.motion.sensor = .running → s.motion.watch = .running e →
     reached s.clock e = true →
     let t := s.taken .drdyWatchExpiry
     let lost : Motion :=
       { s.motion with
         sensor := .lost, watch := .idle, retry := .after s.clock 100, sum := 0, runLength := 0, priming := 0,
         primed := false, freefallRun := 0, freefallReported := false, cls := .unprimed }
     (s.motion.port = .reading → exec .drdyWatchExpiry s = .next t) ∧
     (s.motion.port ≠ .reading → exec .drdyWatchExpiry s = .next ((t.setMotion lost).handOn
       ([.faultCapture (.sensorLost s.clock), .noticePost .sensor s.clock { b0 := 2, b1 := 0, b2 := 0, b3 := 0 }] ++
         if s.motion.cls = .unprimed then []
         else [.noticePost .motion s.clock { b0 := 0, b1 := 0, b2 := 0, b3 := 0 },
           .motionVerdictHandoff (some .unprimed) none none]))))

/-- What one arrival measures, in the order of 5.4 and 5.5: gravity, ring, window sum, priming, shock, freefall, tilt
(R95 to R102). -/
def Obligations.ArrivalsMeasureInOrder : Prop :=
  ∀ (m : Motion) (ax ay az : Int),
    let n := (m.measure ax ay az).1
    let d := (m.measure ax ay az).2
    let g (v : Int) : Int := (v + 128) / 256
    let vx := (ax - g m.gx).natAbs
    let vy := (ay - g m.gy).natAbs
    let vz := (az - g m.gz).natAbs
    let seeds := m.runLength = 0
    let activity := if seeds then 0 else vx + vy + vz
    let next (old a : Int) : Int :=
      if seeds then 256 * a else old + (256 * a - old) / (2 : Int) ^ m.settings.gravityShift
    let w := 2 ^ m.settings.windowExponent
    let leaving :=
      if w ≤ m.runLength then (match m.ring[w - 1]? with | some e => e.activity | none => 0) else 0
    let falls := ax.natAbs + ay.natAbs + az.natAbs < 16 * m.settings.freefallCode
    let run := if falls then min 64 (m.freefallRun + 1) else 0
    let fresh := ¬ (falls ∧ m.freefallReported = true)
    let q := g n.gx * g n.gx + g n.gy * g n.gy + g n.gz * g n.gz
    let z := 256 * (g n.gz * g n.gz)
    n.gx = next m.gx ax ∧ n.gy = next m.gy ay ∧ n.gz = next m.gz az ∧
    d.peak = (if seeds then 0 else max vx (max vy vz)) ∧
    n.ring = ({ number := m.sampleCounter, x := ax, y := ay, z := az, activity := activity } :: m.ring).take 64 ∧
    n.sampleCounter = m.sampleCounter + 1 ∧ n.runLength = min 64 (m.runLength + 1) ∧
    n.sum = m.sum + activity - leaving ∧ n.level = n.sum / w ∧
    n.priming = min w (m.priming + 1) ∧ (d.endOfPriming = true ↔ m.priming < w ∧ n.priming = w) ∧
    (n.primed = true ↔ m.primed = true ∨ d.endOfPriming = true) ∧
    (d.shock = true ↔ 16 * m.settings.shockCode ≤ d.peak) ∧
    n.freefallRun = run ∧ (d.freefall = true ↔ m.settings.freefallCount ≤ run ∧ fresh) ∧
    (n.freefallReported = true ↔ ¬ fresh ∨ d.freefall = true) ∧
    (m.tilt = .level →
      (n.tilt = .tilted ↔ g n.gz ≤ 0 ∨ z < (m.settings.tiltLimit : Int) * q) ∧
      (d.tiltEntry = true ↔ n.tilt = .tilted) ∧ d.tiltExit = false) ∧
    (m.tilt = .tilted →
      (n.tilt = .level ↔ 0 < g n.gz ∧ ((min (m.settings.tiltLimit + 8) 256 : Nat) : Int) * q ≤ z) ∧
      (d.tiltExit = true ↔ n.tilt = .level) ∧ d.tiltEntry = false) ∧
    n = { m with
      gx := n.gx, gy := n.gy, gz := n.gz, ring := n.ring, sampleCounter := n.sampleCounter, runLength := n.runLength,
      sum := n.sum, level := n.level, priming := n.priming, primed := n.primed, freefallRun := n.freefallRun,
      freefallReported := n.freefallReported, tilt := n.tilt }

/-- The class, episode and quiet timer work of one arrival, on the values measured (R110, R111, R112, R116, R118, R120,
R121, R123, R125). -/
def Obligations.ArrivalsJudgeTheMotion : Prop :=
  ∀ (m : Motion) (now : Clock) (d : Detections),
    let j := m.judge now d
    let t := m.settings
    let found := d.shock = true ∨ d.freefall = true
    let alone : MotionClass := if t.roughOn ≤ m.level then .rough else if t.rollOn ≤ m.level then .rolling else .still
    let settles : MotionClass := if t.rollOn - t.hysteresis ≤ m.level then .rolling else .still
    let rises := (m.cls = .unprimed ∧ j.cls ≠ .unprimed) ∨ (m.cls = .still ∧ (j.cls = .rolling ∨ j.cls = .rough)) ∨
      (m.cls = .rolling ∧ j.cls = .rough)
    let recent := (j.episodes.filter fun e => decide (since now e.start ≤ t.escalationSpan * 1000)).length
    let cause := rises ∨ found ∨ d.tiltEntry = true ∨ m.tilt = .tilted ∨ j.cls = .rough
    (m.primed = false → j.cls = m.cls) ∧
    (m.primed = true → found → j.cls = .rough) ∧
    (m.primed = true → ¬ found → d.endOfPriming = true → j.cls = alone) ∧
    (m.primed = true → ¬ found → d.endOfPriming = false →
      (m.cls = .still → j.cls = alone) ∧
      (m.cls = .rolling → j.cls = if t.roughOn ≤ m.level then .rough else settles) ∧
      (m.cls = .rough → j.cls = if t.roughOn - t.hysteresis ≤ m.level then .rough else settles)) ∧
    (∀ e es, m.episodes = e :: es → e.duration = none →
      j.sequence = m.sequence ∧
      j.episodes =
        { e with shock := e.shock || d.shock, freefall := e.freefall || d.freefall, peak := max e.peak d.peak } ::
          es) ∧
    (m.openEpisode = none → ¬ found → j.episodes = m.episodes ∧ j.sequence = m.sequence) ∧
    (m.openEpisode = none → found →
      j.sequence = m.sequence + 1 ∧
      j.episodes =
        { sequence := m.sequence + 1, start := now, shock := d.shock, freefall := d.freefall, peak := d.peak,
          duration := none, unloaded := 0, stranded := 0 } :: m.episodes.take 7) ∧
    (cause → j.multiplier = min 4 (1 + recent) ∧
      j.quiet = .running (now + BitVec.ofNat 32 (t.quietBase * 100 * j.multiplier))) ∧
    (¬ cause → j.multiplier = m.multiplier ∧ j.quiet = m.quiet) ∧
    j = { m with
      cls := j.cls, episodes := j.episodes, sequence := j.sequence, quiet := j.quiet, multiplier := j.multiplier }

/-- SAMPLE_ARRIVAL in RUNNING with a read in progress: the saturated values are measured and judged, then SHOCK,
FREEFALL, MOTION and TILT are posted in this order and what changed is handed to the policy; without a read in progress
there is no arrival (R88, R91, R103, R114, R115, R125, R132). One handoff carries all the changes (log entry 18). -/
def Obligations.SampleArrivalsPostAndHandOn : Prop :=
  ∀ (x y z : Half) (s : State), s.phase = .operating →
    let t := s.taken (.sampleArrival x y z)
    let counts (v : Half) : Int := if v.toInt < -2048 then -2048 else if 2047 < v.toInt then 2047 else v.toInt
    let d := ({ s.motion with port := .idle }.measure (counts x) (counts y) (counts z)).2
    let j := ({ s.motion with port := .idle }.measure (counts x) (counts y) (counts z)).1.judge s.clock d
    let number : Half := match j.openEpisode with | some e => e.sequence | none => 0
    let turned := d.tiltEntry = true ∨ d.tiltExit = true
    let woken := s.motion.quiet = .quiet ∧ j.quiet ≠ .quiet
    let notices : List Instr :=
      (if d.shock = true then [.noticePost .shock s.clock (payloadOf (BitVec.ofNat 16 d.peak) number)] else []) ++
      (if d.freefall = true then [.noticePost .freefall s.clock (payloadOf number 0)] else []) ++
      (if j.cls = s.motion.cls then [] else
        [.noticePost .motion s.clock
          { b0 := BitVec.ofNat 8 (classCode j.cls), b1 := (BitVec.ofNat 16 j.level).extractLsb' 0 8,
            b2 := (BitVec.ofNat 16 j.level).extractLsb' 8 8, b3 := 0 }]) ++
      (if turned then
        [.noticePost .tilt s.clock { b0 := if j.tilt = .tilted then 1 else 0, b1 := 0, b2 := 0, b3 := 0 }] else [])
    let handed : List Instr :=
      if j.cls = s.motion.cls ∧ ¬ turned ∧ ¬ woken then []
      else [.motionVerdictHandoff (if j.cls = s.motion.cls then none else some j.cls)
        (if turned then some j.tilt else none) (if woken then some false else none)]
    (s.motion.sensor = .running → s.motion.port = .reading →
      exec (.sampleArrival x y z) s = .next ((t.setMotion j).handOn (notices ++ handed))) ∧
    (s.motion.sensor ≠ .running ∨ s.motion.port ≠ .reading → exec (.sampleArrival x y z) s = .next t)

/-- The expiry of the quiet timer, the policy's restart request, and the reports of unloads and strandings (R64, R65,
R116 to R119, R122, R124). -/
def Obligations.QuietTimerAndEpisodeReports : Prop :=
  ∀ s : State, s.phase = .operating →
    let m := s.motion
    let q := s.taken .quietTimerExpiry
    let recent := (m.episodes.filter fun e => decide (since s.clock e.start ≤ m.settings.escalationSpan * 1000)).length
    let multiplier := min 4 (1 + recent)
    (∀ e, m.quiet = .running e → reached s.clock e = true →
      (m.openEpisode = none → exec .quietTimerExpiry s =
        .next ((q.setMotion { m with quiet := .quiet }).handOn [.motionVerdictHandoff none none (some true)])) ∧
      (∀ r rest, m.episodes = r :: rest → r.duration = none → exec .quietTimerExpiry s =
        .next ((q.setMotion
          { m with
            quiet := .quiet, episodes := { r with duration := some (s.clock - r.start) } :: rest }).handOn
              [.noticePost .episode s.clock
                (payloadOf r.sequence (BitVec.ofNat 16 (min (s.clock - r.start).toNat 65535))),
               .motionVerdictHandoff none none (some true)]))) ∧
    (exec .quietRestartRequest s = .next (((s.taken .quietRestartRequest).setMotion
      { m with
        quiet := .running (s.clock + BitVec.ofNat 32 (m.settings.quietBase * 100 * multiplier)),
        multiplier := multiplier }).handOn
          (if m.quiet = .quiet then [.motionVerdictHandoff none none (some false)] else []))) ∧
    (∀ b : BayId,
      (m.openEpisode = none →
        exec (.unloadReport b) s = .next (s.taken (.unloadReport b)) ∧
        exec (.strandingReport b) s = .next (s.taken (.strandingReport b))) ∧
      (∀ r rest, m.episodes = r :: rest → r.duration = none →
        exec (.unloadReport b) s = .next ((s.taken (.unloadReport b)).setMotion
          { m with episodes := { r with unloaded := min 255 (r.unloaded + 1) } :: rest }) ∧
        exec (.strandingReport b) s = .next ((s.taken (.strandingReport b)).setMotion
          { m with episodes := { r with stranded := min 255 (r.stranded + 1) } :: rest })))

/-- MOTION_SETUP stores its record brought into range and order and echoes it; a changed window recomputes S from the
ring, starts a priming and makes the class UNPRIMED, and nothing else of the measure changes (R104, R105, R106, R113,
R128, R194). That L is kept at a changed window (log entry 9), and that the reply's flags do not show the MOTION notice
of the change yet (log entry 7), are the model's readings. -/
def Obligations.MotionSetupActsOnTheWindow : Prop :=
  ∀ (r : RawMotion) (s : State), s.canAnswer →
    let s1 := (s.taken (.motionSetup r)).acceptedRequest
    let m := s.motion
    let t := MotionSettings.ofRaw r
    let done (u : State) : Host.Outcome State Fault Refusal :=
      .next (u.sendReply 0xA0 .ok (decide (t.toRaw ≠ r)) t.toRaw.bytes false)
    let w := 2 ^ t.windowExponent
    let changed := s1.setMotion
      { m with
        settings := t, sum := ((m.ring.take (min w m.runLength)).map (·.activity)).sum, priming := 0, primed := false,
        cls := .unprimed }
    (t.windowExponent = m.settings.windowExponent →
      exec (.motionSetup r) s = done (s1.setMotion { m with settings := t })) ∧
    (t.windowExponent ≠ m.settings.windowExponent → m.cls = .unprimed → exec (.motionSetup r) s = done changed) ∧
    (t.windowExponent ≠ m.settings.windowExponent → m.cls ≠ .unprimed →
      exec (.motionSetup r) s = done (changed.handOn
        [.noticePost .motion s.clock { b0 := 0, b1 := 0, b2 := 0, b3 := 0 },
         .motionVerdictHandoff (some .unprimed) none none]))

/-- The motion settings are brought into range field by field, and then the three thresholds into order, by the three
steps of R127; settings in range and order are stored and echoed as they were written. -/
def Obligations.MotionSettingsArePutInOrder : Prop :=
  (∀ r : RawMotion,
    let t := MotionSettings.ofRaw r
    let put (lo hi : Nat) (v : Nat) : Nat := if v < lo then lo else if hi < v then hi else v
    let roll := put 1 4095 r.rollOn.toNat
    let rough := put 1 4095 r.roughOn.toNat
    let hyst := if put 0 63 r.hysteresis.toNat < roll then put 0 63 r.hysteresis.toNat else roll - 1
    t.inRange ∧ t.gravityShift = put 3 10 r.gravityShift.toNat ∧ t.windowExponent = put 3 6 r.windowExponent.toNat ∧
    t.shockCode = put 1 127 r.shockCode.toNat ∧ t.freefallCode = put 1 16 r.freefallCode.toNat ∧
    t.freefallCount = put 2 64 r.freefallCount.toNat ∧ t.tiltLimit = r.tiltLimit.toNat ∧
    t.quietBase = put 1 100 r.quietBase.toNat ∧ t.escalationSpan = put 1 255 r.escalationSpan.toNat ∧
    t.hysteresis = hyst ∧
    (roll + hyst + 1 ≤ rough → t.rollOn = roll ∧ t.roughOn = rough) ∧
    (rough < roll + hyst + 1 → roll + hyst + 1 ≤ 4095 → t.rollOn = roll ∧ t.roughOn = roll + hyst + 1) ∧
    (4095 < roll + hyst + 1 → t.rollOn = 4094 - hyst ∧ t.roughOn = 4095)) ∧
  (∀ t : MotionSettings, t.inRange → MotionSettings.ofRaw t.toRaw = t)

/-- Every step keeps the Motion Unit lawful: S the sum of the window's activities, L its floor, priming and primed by
the window, UNPRIMED exactly while not primed, gravity in range, the episode list of at most eight with only its head
open and only while the quiet timer runs (R93, R96 to R99, R104, R110 to R113, R118 to R124, R127). -/
def Obligations.StepsKeepTheMotionLawful : Prop :=
  ∀ s t : State, s.motionLawful → step s = .next t → t.motionLawful

/-! ## Park Policy -/

/-- A re-evaluation computes the permissions by the seven conditions, the spin gate and the stop order, and hands on
each output that changed: load permissions, a forced-unload order where flight permission fell, the stop order or its
lifting, and the spin gate last (R133 to R139). That the spin gate is handed on last whatever else changed is the
model's choice (log entry 27). -/
def Obligations.ReevaluationHandsOnEachChange : Prop :=
  ∀ s : State,
    let p := s.policy
    let q := s.reevaluate.policy
    let asserted := (p.handleMode = .level ∧ p.handleState = true) ∨ (p.lidMode = .level ∧ p.lidState = true)
    let lapsedStop := p.supervision = .lapsed ∧ p.action = .stop
    let flies (b : BayId) : Prop :=
      (p.classSeen = .still ∨ (p.classSeen = .rolling ∧ (atBay p.table b).motionLimit = .rolling)) ∧
      p.tiltSeen = .level ∧ (p.supplySeen = .normal ∨ p.supplySeen = .low) ∧ p.supervision ≠ .lapsed ∧ ¬ asserted ∧
      (atBay p.table b).access = .full
    (∀ b, (atBay q.flightPermission b = true ↔ flies b) ∧
      (atBay q.loadPermission b = true ↔ flies b ∧ p.quietSeen = true)) ∧
    (q.gateOpen = true ↔
      (p.classSeen = .still ∨ p.classSeen = .rolling) ∧ p.supplySeen = .normal ∧ ¬ lapsedStop) ∧
    (q.stopStanding = true ↔ p.supplySeen = .critical ∨ lapsedStop) ∧
    ∃ orders : List Instr,
      s.reevaluate =
        { s with
          policy :=
            { p with
              loadPermission := q.loadPermission, flightPermission := q.flightPermission, gateOpen := q.gateOpen,
              stopStanding := q.stopStanding }
          inFlight :=
            s.inFlight ++ orders ++ if p.gateOpen = q.gateOpen then [] else [.spinGateReport q.gateOpen] } ∧
      orders.Nodup ∧
      ∀ e : Instr, e ∈ orders ↔
        (∃ b v, e = .loadPermissionReport b v ∧ atBay p.loadPermission b ≠ v ∧ atBay q.loadPermission b = v) ∨
        (∃ b, e = .forcedUnloadOrder b ∧ atBay p.flightPermission b = true ∧ atBay q.flightPermission b = false) ∨
        (∃ b, e = .stopOrder b ∧ p.stopStanding = false ∧ q.stopStanding = true) ∨
        (∃ b, e = .stopOrderLift b ∧ p.stopStanding = true ∧ q.stopStanding = false)

/-- A handed class, tilt, quiet or supply change is taken as seen and re-evaluates; a value already held changes
nothing (R132, R133). A lapse enters LAPSED, posts SUPERVISION, sets lapse-seen and re-evaluates (R148). An accepted
request does nothing in OFF, reloads in ACTIVE, and in LAPSED reloads to ACTIVE and re-evaluates (R147, R149). -/
def Obligations.PolicyTakesItsInputs : Prop :=
  (∀ s : State, s.phase = .operating →
    let p := s.policy
    (∀ (cls : Option MotionClass) (tilt : Option Tilt) (quiet : Option Bool),
      let t := s.taken (.motionVerdictHandoff cls tilt quiet)
      let n : Policy :=
        { p with
          classSeen := match cls with | some c => c | none => p.classSeen
          tiltSeen := match tilt with | some v => v | none => p.tiltSeen
          quietSeen := match quiet with | some v => v | none => p.quietSeen }
      (n = p → exec (.motionVerdictHandoff cls tilt quiet) s = .next t) ∧
      (n ≠ p → exec (.motionVerdictHandoff cls tilt quiet) s = .next (t.setPolicy n).reevaluate)) ∧
    (∀ st : SupplyState,
      (st = p.supplySeen → exec (.supplyStateReport st) s = .next (s.taken (.supplyStateReport st))) ∧
      (st ≠ p.supplySeen → exec (.supplyStateReport st) s =
        .next ((s.taken (.supplyStateReport st)).setPolicy { p with supplySeen := st }).reevaluate)) ∧
    (∀ e, p.supervision = .active e → reached s.clock e = true →
      exec .supervisionLapse s = .next (((((s.taken .supervisionLapse).setPolicy { p with supervision := .lapsed }).handOn
        [.noticePost .supervision s.clock { b0 := 0, b1 := 0, b2 := 0, b3 := 0 }]).setLink
          { s.link with lapseSeen := true }).reevaluate))) ∧
  (∀ s : State,
     let reloaded := s.setPolicy
       { s.policy with supervision := .active (s.clock + BitVec.ofNat 32 (s.policy.period * 100)) }
     (s.policy.supervision = .off → s.acceptedRequest = s) ∧
     (∀ e, s.policy.supervision = .active e → s.acceptedRequest = reloaded) ∧
     (s.policy.supervision = .lapsed → s.acceptedRequest = reloaded.reevaluate))

/-- A case input acts by its mode: OFF changes the state alone; LEVEL re-evaluates and posts, and its release also
restarts the quiet timer; an EDGE assertion sends every bay a forced-unload order, restarts the quiet timer and posts,
and its release changes the state alone (R132, R142, R143, R144). -/
def Obligations.CaseInputsActByMode : Prop :=
  ∀ (i : CaseInput) (s : State), s.phase = .operating →
    let p := s.policy
    let after (v : Bool) : Policy :=
      match i with
      | .handle => { p with handleState := v, handleCount := 0 }
      | .lid => { p with lidState := v, lidCount := 0 }
    let mode := match i with | .handle => p.handleMode | .lid => p.lidMode
    let state := match i with | .handle => p.handleState | .lid => p.lidState
    let notice (level : Byte) : List Instr :=
      [.noticePost .input s.clock { b0 := if i = .handle then 0 else 1, b1 := level, b2 := 0, b3 := 0 }]
    let a := (s.taken (.caseInputAssertion i)).setPolicy (after true)
    let r := s.taken (.caseInputRelease i)
    let edge := a.handOn (bayIds.map .forcedUnloadOrder ++ [.quietRestartRequest])
    (state = false →
      (mode = .off → exec (.caseInputAssertion i) s = .next a) ∧
      (mode = .level → exec (.caseInputAssertion i) s = .next (a.reevaluate.handOn (notice 1))) ∧
      (mode = .edge → p.quietSeen = true → exec (.caseInputAssertion i) s =
        .next ((edge.setPolicy { after true with quietSeen := false }).reevaluate.handOn (notice 1))) ∧
      (mode = .edge → p.quietSeen = false → exec (.caseInputAssertion i) s = .next (edge.handOn (notice 1)))) ∧
    (state = true →
      (mode ≠ .level → exec (.caseInputRelease i) s = .next (r.setPolicy (after false))) ∧
      (mode = .level → exec (.caseInputRelease i) s =
        .next (((r.handOn (notice 0 ++ [.quietRestartRequest])).setPolicy
          { after false with quietSeen := false }).reevaluate)))

/-- CASE_SETUP stores its fields brought into range, restarts the quiet timer for each asserted input that leaves
LEVEL mode, sets supervision OFF for period 0 and reloads it ACTIVE otherwise, re-evaluates once, and echoes the record
with CLAMPED when a field was changed (R145, R147, R150, R196). -/
def Obligations.CaseSetupActsOnModesAndPeriod : Prop :=
  ∀ (r : RawCase) (s : State), s.canAnswer →
    let s1 := (s.taken (.caseSetup r)).acceptedRequest
    let p := s1.policy
    let modeFor (v : Byte) : InputMode := if v = 0 then .off else if v = 1 then .level else .edge
    let leaves (old new : InputMode) (asserted : Bool) : Prop := old = .level ∧ new ≠ .level ∧ asserted = true
    let handleLeaves := leaves p.handleMode (modeFor r.handleMode) p.handleState
    let lidLeaves := leaves p.lidMode (modeFor r.lidMode) p.lidState
    let request (sent : Prop) [Decidable sent] : List Instr := if sent then [.quietRestartRequest] else []
    let stored : Policy :=
      { p with
        handleMode := modeFor r.handleMode, lidMode := modeFor r.lidMode, period := r.period.toNat,
        action := if r.action = 0 then .park else .stop,
        supervision :=
          if r.period = 0 then .off else .active (s.clock + BitVec.ofNat 32 (r.period.toNat * 100)),
        quietSeen := if handleLeaves ∨ lidLeaves then false else p.quietSeen }
    exec (.caseSetup r) s =
      .next ((((s1.handOn (request handleLeaves ++ request lidLeaves)).setPolicy stored).reevaluate).sendReply 0xC0 .ok
        (decide (3 ≤ r.handleMode.toNat ∨ 3 ≤ r.lidMode.toNat ∨ 2 ≤ r.action.toNat))
        [if 2 ≤ r.handleMode.toNat then 2 else r.handleMode, if 2 ≤ r.lidMode.toNat then 2 else r.lidMode, r.period,
         if r.action = 0 then 0 else 1] false)

/-- Every step keeps the policy's outputs on its inputs, its bay table on the bays' descriptors, and supervision OFF
with period 0 alone (R132, R133, R150). -/
def Obligations.StepsKeepThePolicyLawful : Prop :=
  ∀ s t : State, s.policyLawful → step s = .next t → t.policyLawful

/-! ## Supply Monitor -/

/-- One sample: the reading, the dwell counts, the supply state from the state before, the source, and the reports of
what changed, in order (R154 to R160). -/
def Obligations.SupplySamplesMoveTheState : Prop :=
  ∀ (rail : Int) (srcHigh : Bool) (s : State), s.phase = .operating → s.supply.lawful →
    let m := s.supply
    let warn := 1060 + 10 * m.warnIndex
    let cutoff := 900 + 10 * m.cutoffIndex
    let pin : Source := if srcHigh = true then .mains else .battery
    ∃ n : Supply,
      n.reading = (if rail < 0 then 0 else if 1600 < rail then 1600 else rail.toNat) ∧
      n.warnIndex = m.warnIndex ∧ n.cutoffIndex = m.cutoffIndex ∧
      (n.reading < cutoff → n.warnDwell = min 10 (m.warnDwell + 1) ∧ n.cutoffDwell = min 3 (m.cutoffDwell + 1)) ∧
      (cutoff ≤ n.reading → n.reading < warn → n.warnDwell = min 10 (m.warnDwell + 1) ∧ n.cutoffDwell = 0) ∧
      (warn ≤ n.reading → n.warnDwell = 0 ∧ n.cutoffDwell = 0) ∧
      (m.state = .none → n.state =
        if n.reading < cutoff then .critical else if n.reading < warn then .low else .normal) ∧
      (m.state = .normal → n.state =
        if n.cutoffDwell = 3 then .critical else if n.warnDwell = 10 then .low else .normal) ∧
      (m.state = .low → n.state =
        if n.cutoffDwell = 3 then .critical else if warn + 20 ≤ n.reading then .normal else .low) ∧
      (m.state = .critical → n.state =
        if warn + 20 ≤ n.reading then .normal else if cutoff + 20 ≤ n.reading then .low else .critical) ∧
      n.entryTime = (if n.state = m.state then m.entryTime else s.clock) ∧
      (pin = m.source → n.source = m.source ∧ n.agree = 0) ∧
      (pin ≠ m.source → m.agree < 2 → n.source = m.source ∧ n.agree = m.agree + 1) ∧
      (pin ≠ m.source → m.agree = 2 → n.source = pin ∧ n.agree = 0) ∧
      exec (.supplySample rail srcHigh) s =
        .next (((s.taken (.supplySample rail srcHigh)).setSupply n).handOn
          ((if n.state = .critical ∧ m.state ≠ .critical then [.faultCapture (.supplyCritical s.clock)] else []) ++
           (if n.state = m.state ∧ n.source = m.source then [] else
             [.noticePost .supply s.clock
               { b0 := BitVec.ofNat 8 (supplyCode n.state), b1 := if n.source = .mains then 1 else 0,
                 b2 := (BitVec.ofNat 16 n.reading).extractLsb' 0 8,
                 b3 := (BitVec.ofNat 16 n.reading).extractLsb' 8 8 }]) ++
           (if n.state = m.state then [] else [.supplyStateReport n.state]) ++
           (if n.source = m.source then [] else [.sourceReport n.source])))

/-! ## Notices and faults -/

/-- A post by the first case of R199 that applies: a queued or a pending notice is brought up to date in its place, a
clear key is placed behind the last entry of its urgency, or becomes pending (R199, R200). -/
def Obligations.PostsQueueCoalesceOrWait : Prop :=
  ∀ (k : Key) (time : Clock) (p : NoticePayload) (s : State), s.phase = .operating → s.notices.lawful →
    let n := s.notices
    let run := exec (.noticePost k time p) s
    let done (after : Notices) := run = .next ((s.taken (.noticePost k time p)).setNotices after)
    let again (e : Notice) : Notice := { e with count := min 255 (e.count + 1), time := time, payload := p }
    let fresh : Notice := { key := k, count := 1, time := time, payload := p }
    let clear := (∀ e ∈ n.queue, e.key ≠ k) ∧ ∀ e ∈ n.pending, e.key ≠ k
    let placed := n.mask.getLsbD k.kind.val = false ∧ n.queue.length < 8
    (∀ front e back, n.queue = front ++ e :: back → e.key = k → done { n with queue := front ++ again e :: back }) ∧
    (∀ front e back, n.pending = front ++ e :: back → e.key = k → done { n with pending := front ++ again e :: back }) ∧
    (clear → placed → k.urgent = true → ∀ front back, n.queue = front ++ back →
      (∀ e ∈ front, e.key.urgent = true) → (∀ e ∈ back, e.key.urgent = false) →
      done { n with queue := front ++ fresh :: back }) ∧
    (clear → placed → k.urgent = false → done { n with queue := n.queue ++ [fresh] }) ∧
    (clear → ¬ placed → ∀ front back, n.pending = front ++ back →
      (∀ e ∈ front, e.key.number < k.number) → (∀ e ∈ back, k.number < e.key.number) →
      done { n with pending := front ++ fresh :: back })

/-- NOTICE_FETCH removes and returns the head entry and fills its place from pending; NOTICE_MASK replaces the mask
and, when a kind becomes unmasked, fills the queue; NOTICE_STATUS reads length, pending keys and mask. Filling takes
the pending key that R201 names, one after the other, while a place is free (R200 to R204, R196). Numbers, urgency and
kinds of the keys are those of R197's table. -/
def Obligations.FetchesAndMasksFillFromPending : Prop :=
  (∀ k : Key, (k.number, k.urgent, k.kind.val) =
    match k with
    | .bay b => (b.val, false, 0) | .shock => (12, true, 1) | .freefall => (13, true, 2) | .fault => (14, true, 3)
    | .supply => (15, true, 4) | .supervision => (16, true, 5) | .sensor => (17, true, 6) | .motion => (18, false, 7)
    | .tilt => (19, false, 8) | .episode => (20, false, 9) | .input => (21, false, 10)) ∧
  (∀ n : Notices, n.pending.Pairwise (fun x y => x.key.number < y.key.number) →
    (8 ≤ n.queue.length ∨ (∀ e ∈ n.pending, n.mask.getLsbD e.key.kind.val = true) → n.filled = n) ∧
    (∀ e, n.queue.length < 8 → n.entersNext e →
      let rest := n.pending.filter fun x => decide (x.key ≠ e.key)
      (e.key.urgent = true → ∀ front back, n.queue = front ++ back →
        (∀ x ∈ front, x.key.urgent = true) → (∀ x ∈ back, x.key.urgent = false) →
        n.filled = { n with queue := front ++ e :: back, pending := rest }.filled) ∧
      (e.key.urgent = false → n.filled = { n with queue := n.queue ++ [e], pending := rest }.filled))) ∧
  (∀ s : State, s.canAnswer →
    let n := s.notices
    let fetch := (s.taken .noticeFetch).acceptedRequest
    let status := (s.taken .noticeStatus).acceptedRequest
    (n.queue = [] → exec .noticeFetch s = .next (fetch.sendReply 0xD1 .ok false [] false)) ∧
    (∀ e rest, n.queue = e :: rest → exec .noticeFetch s =
      .next ((fetch.setNotices { n with queue := rest }.filled).sendReply 0xD1 .ok false
        ([BitVec.ofNat 8 e.key.number, if e.key.urgent = true then 1 else 0, BitVec.ofNat 8 e.count] ++ le32 e.time ++
          [e.payload.b0, e.payload.b1, e.payload.b2, e.payload.b3]) false)) ∧
    (∃ keys : Clock,
      exec .noticeStatus s = .next (status.sendReply 0xD2 .ok false
        ([BitVec.ofNat 8 n.queue.length] ++ (le32 keys).take 3 ++ le16 (n.mask.setWidth 16)) false) ∧
      (∀ k : Key, keys.getLsbD k.number = true ↔ ∃ e ∈ n.pending, e.key = k) ∧ keys.toNat < 2 ^ 22) ∧
    (∀ mask : Half,
      let masking := (s.taken (.noticeMask mask)).acceptedRequest
      let stored : Notices := { n with mask := mask.setWidth 11 }
      let unmasks := ∃ kind, n.mask.getLsbD kind = true ∧ mask.getLsbD kind = false
      let done (after : Notices) := exec (.noticeMask mask) s =
        .next ((masking.setNotices after).sendReply 0xD0 .ok false (le16 (mask &&& 0x07FF)) false)
      (unmasks → done stored.filled) ∧ (¬ unmasks → done stored)))

/-- A capture is stored and posts FAULT in the same event when the record is empty, and sets more otherwise; FAULT_READ
returns the record and the more flag and releases both, or returns twelve zeros (R196, R207, R208, R209). A capture
before the warm restart leaves neither the record nor its FAULT notice (R210). -/
def Obligations.CapturesAreHeldUntilRead : Prop :=
  ∀ s : State,
    let f := s.faults
    let reason (c : Capture) : Byte :=
      match c with | .bay _ r _ _ _ _ => r.code | .sensorLost _ => 9 | .supplyCritical _ => 10
    let source (c : Capture) : Byte :=
      match c with | .bay b _ _ _ _ _ => BitVec.ofNat 8 b.val | .sensorLost _ => 12 | .supplyCritical _ => 13
    let fields (c : Capture) : List Byte :=
      match c with
      | .bay _ _ found time tach prk =>
        [stateCode found] ++ le32 time ++ le16 (BitVec.ofNat 16 tach) ++ [if prk = true then 1 else 0]
      | .sensorLost time => [255] ++ le32 time ++ [0, 0, 255]
      | .supplyCritical time => [255] ++ le32 time ++ [0, 0, 255]
    (s.phase = .operating → ∀ c : Capture,
      let t := s.taken (.faultCapture c)
      (f.record = none → ∃ posted,
        exec (.noticePost .fault s.clock { b0 := reason c, b1 := source c, b2 := 0, b3 := 0 }) t = .next posted ∧
        exec (.faultCapture c) s = .next ((t.setFaults { f with record := some c }).setNotices posted.notices)) ∧
      (f.record ≠ none → exec (.faultCapture c) s = .next (t.setFaults { f with more := true })) ∧
      (∀ sent u, s.link.tx = .sending sent true → exec (.faultCapture c) s = .next u → ∃ v,
        exec .endOfReply u = .next v ∧ v.faults.record = none ∧ v.faults.more = false ∧ v.notices.queue = [] ∧
        v.notices.pending = [] ∧
        (∀ time p, .noticePost .fault time p ∈ v.inFlight → .noticePost .fault time p ∈ s.inFlight))) ∧
    (s.canAnswer →
      let t := (s.taken .faultRead).acceptedRequest
      (f.record = none →
        exec .faultRead s = .next (t.sendReply 0xE0 .ok false [0, 0, 0, 0, 0, 0, 0, 0, 0, 0, 0, 0] false)) ∧
      (∀ c, f.record = some c → exec .faultRead s =
        .next ((t.setFaults { record := none, more := false }).sendReply 0xE0 .ok false
          ([1, if f.more = true then 1 else 0, reason c, source c] ++ fields c) false)))

/-- Every step keeps the Supply Monitor, the Notice Queue and the Fault Record lawful: dwell counts below the limits
that the supply state tests next (R157, R158); at most eight entries, one per key, urgent first, no key queued and
pending at once, an unmasked key pending only behind a full queue (R198, R200, R201); more only with a record (R207). -/
def Obligations.StepsKeepSupplyAndRecordsLawful : Prop :=
  ∀ s t : State, step s = .next t →
    (s.supply.lawful → t.supply.lawful) ∧ (s.notices.lawful → t.notices.lawful) ∧
    (s.faults.lawful → t.faults.lawful)

/-! ## Replies that read the state -/

/-- IDENT is answered with the identity codes, the last reset cause and the Case Clock (R186, R191); RESTART is
answered OK without a payload, its warm restart left to the end of the reply (R187). -/
def Obligations.IdentAndRestartAreAnswered : Prop :=
  ∀ s : State, s.canAnswer →
    exec .ident s =
      .next ((s.taken .ident).acceptedRequest.sendReply 0x81 .ok false
        (([0x19, 0x0B, 0xC4, 0x0B, 1, 12,
          match s.cause with | .powerOn => 0 | .brownout => 1 | .pin => 2 | .restart => 3] : List Byte) ++
          [s.clock.extractLsb' 0 8, s.clock.extractLsb' 8 8, s.clock.extractLsb' 16 8, s.clock.extractLsb' 24 8])
        false) ∧
    exec .restart s = .next ((s.taken .restart).acceptedRequest.sendReply 0x82 .ok false [] true)

/-- MOTION_QUERY, TRACE and EPISODES read the Motion Unit and change nothing but the reply and the supervision report:
the records of R129, R107 and R126 as R194 lays them out, with CLAMPED for any change that brought a field into range;
the codes of sensor states and classes are R190's. That a TRACE stride above 8 is 8, which an example row of 5.8 does
not do, is the model's choice (log entry 28). -/
def Obligations.MotionRecordsAreReported : Prop :=
  ((∀ st : SensorState, sensorCode st = match st with | .setup => 0 | .running => 1 | .lost => 2) ∧
    ∀ c : MotionClass, classCode c = match c with | .unprimed => 0 | .still => 1 | .rolling => 2 | .rough => 3) ∧
  ∀ s : State, s.canAnswer →
    let m := s.motion
    let g (v : Int) : List Byte := le16 (BitVec.ofInt 16 ((v + 128) / 256))
    let put (lo hi : Nat) (v : Nat) : Nat := if v < lo then lo else if hi < v then hi else v
    (∃ bits : Byte,
      exec .motionQuery s = .next ((s.taken .motionQuery).acceptedRequest.sendReply 0xA1 .ok false
        ([bits, BitVec.ofNat 8 m.priming, BitVec.ofNat 8 (2 ^ m.settings.windowExponent)] ++
          (le32 (BitVec.ofNat 32 m.sum)).take 3 ++ le16 (BitVec.ofNat 16 m.level) ++ g m.gx ++ g m.gy ++ g m.gz ++
          [BitVec.ofNat 8 m.freefallRun] ++
          le16 (match m.quiet with
            | .running e => if reached s.clock e = true then 0 else BitVec.ofNat 16 (e - s.clock).toNat
            | .quiet => 65535
            | .runningUnset => 65535) ++
          [BitVec.ofNat 8 m.multiplier] ++
          le16 (match m.openEpisode with | some e => e.sequence | none => 0) ++ [BitVec.ofNat 8 m.episodes.length] ++
          le16 m.sampleCounter ++ [BitVec.ofNat 8 m.ring.length] ++ m.settings.toRaw.bytes) false) ∧
      (bits.extractLsb' 0 2).toNat = sensorCode m.sensor ∧ (bits.extractLsb' 2 2).toNat = classCode m.cls ∧
      (bits.getLsbD 4 = true ↔ m.primed = true) ∧ (bits.getLsbD 5 = true ↔ m.tilt = .tilted) ∧
      (bits.getLsbD 6 = true ↔ m.quiet = .quiet) ∧ (bits.getLsbD 7 = true ↔ m.openEpisode ≠ none)) ∧
    (∀ back count stride : Byte, m.ring.length ≤ 64 →
      let f := m.ring.length
      let b := if f - 1 < put 0 63 back.toNat then f - 1 else put 0 63 back.toNat
      let n := if f < put 1 6 count.toNat then f else put 1 6 count.toNat
      let t := put 1 8 stride.toNat
      ∃ entries : List (List Byte),
        exec (.trace back count stride) s =
          .next ((s.taken (.trace back count stride)).acceptedRequest.sendReply 0xA2 .ok
            (decide (b ≠ back.toNat ∨ n ≠ count.toNat ∨ t ≠ stride.toNat ∨ count = 0))
            ([BitVec.ofNat 8 f] ++ le16 (match m.ring with | e :: _ => e.number | [] => 0) ++
              [BitVec.ofNat 8 b, BitVec.ofNat 8 (n + 16 * t)] ++ entries.flatten) false) ∧
        entries.length = n ∧
        ∀ i, i < n → ∃ (e : Sample) (v : BitVec 56),
          m.ring[(b + i * t) % f]? = some e ∧
          entries[i]? = some (le16 e.number ++ (List.range 7).map fun j => v.extractLsb' (8 * j) 8) ∧
          v.extractLsb' 0 12 = BitVec.ofInt 12 e.x ∧ v.extractLsb' 12 12 = BitVec.ofInt 12 e.y ∧
          v.extractLsb' 24 12 = BitVec.ofInt 12 e.z ∧ v.extractLsb' 36 14 = BitVec.ofNat 14 e.activity ∧
          (v.extractLsb' 50 6).toNat = (b + i * t) % f) ∧
    (∀ first count : Byte,
      let h := m.episodes.length
      let f := if h - 1 < put 0 7 first.toNat then h - 1 else put 0 7 first.toNat
      let n := if h - f < put 1 4 count.toNat then h - f else put 1 4 count.toNat
      exec (.episodes first count) s =
        .next ((s.taken (.episodes first count)).acceptedRequest.sendReply 0xA3 .ok
          (decide (f ≠ first.toNat ∨ n ≠ count.toNat ∨ count = 0))
          ([BitVec.ofNat 8 (h + 16 * f)] ++ le16 m.sequence ++
            (((m.episodes.drop f).take n).map fun e =>
              le16 e.sequence ++ le32 e.start ++
                le16 (BitVec.ofNat 16 (e.peak + (if e.shock = true then 4096 else 0) +
                  (if e.freefall = true then 8192 else 0) + if e.duration = none then 16384 else 0)) ++
                le32 (match e.duration with | some d => d | none => 0) ++
                [BitVec.ofNat 8 e.unloaded, BitVec.ofNat 8 e.stranded]).flatten) false))

/-- POWER_QUERY and CASE_QUERY read the arbiter, the Supply Monitor and the policy, as R193 and R196 lay their records
out, and change nothing but the reply and the supervision report (R86, R151, R162); the codes of supply states are
R190's. Without a candidate the bit "candidate fits" is free, and drawing it is counted (log entry 8). That a running
spacing timer whose expiry has been reached and not been taken shows 1 ms, the least that R86 allows, is the model's
reading (log entry 29). -/
def Obligations.PowerAndCaseAreReported : Prop :=
  (∀ st : SupplyState, supplyCode st = match st with | .none => 0 | .normal => 1 | .low => 2 | .critical => 3) ∧
  ∀ s : State, s.canAnswer →
    let a := s.arbiter
    let m := s.supply
    let word (n : Nat) : List Byte := le16 (BitVec.ofNat 16 n)
    let left (e : Clock) : List Byte := if reached s.clock e = true then le16 0 else word (e - s.clock).toNat
    let bit (p : Prop) [Decidable p] (n : Nat) : Nat := if p then n else 0
    (∃ (bits : Byte) (oversize spacing budget : Half),
      let t := (s.taken .powerQuery).acceptedRequest
      exec .powerQuery s = .next ((if s.candidate = none then t.drawFree else t).sendReply 0xB1 .ok false
        ([bits, BitVec.ofNat 8 a.spacing, BitVec.ofNat 8 a.mainsBudget, BitVec.ofNat 8 a.batteryBudget,
          BitVec.ofNat 8 a.budget] ++ word a.committed ++
          (match a.spacingTimer with
            | .idle => le16 0
            | .running e => if reached s.clock e = true then le16 1 else left e) ++
          [match s.candidate with | none => 255 | some b => BitVec.ofNat 8 b.val,
           BitVec.ofNat 8 ((a.pointer 0).val + 16 * (a.pointer 1).val),
           BitVec.ofNat 8 ((a.pointer 2).val + 16 * (a.pointer 3).val)] ++
          bayIds.map (fun b => BitVec.ofNat 8 (atBay a.charges b)) ++ le16 oversize ++ le16 spacing ++ le16 budget ++
          [BitVec.ofNat 8 (supplyCode m.state + bit (m.source = .mains) 4 + 8 * m.agree)] ++
          le32 (if m.state = .none then 0 else s.clock - m.entryTime) ++ word m.reading ++
          [BitVec.ofNat 8 (m.warnIndex + 16 * m.cutoffIndex)] ++ word (1060 + 10 * m.warnIndex) ++
          word (900 + 10 * m.cutoffIndex) ++ [BitVec.ofNat 8 (m.warnDwell + 16 * m.cutoffDwell)] ++
          [BitVec.ofNat 8 a.queue.length] ++
          a.queue.map fun b => BitVec.ofNat 8 (b.val + 16 * (s.bay b).priority.val)) false) ∧
      (bits.getLsbD 0 = true ↔ a.mode = .rotate) ∧ (bits.getLsbD 1 = true ↔ a.source = .mains) ∧
      (bits.getLsbD 2 = true ↔ a.budget < a.committed) ∧ (bits.getLsbD 3 = true ↔ a.gateOpen = true) ∧
      (bits.getLsbD 4 = true ↔ a.spacingTimer ≠ .idle) ∧
      (∀ c, s.candidate = some c → (bits.getLsbD 5 = true ↔ s.fits c = true)) ∧ bits.toNat < 64 ∧
      (∀ b : BayId,
        let waits := b ∈ a.queue
        let large := a.budget < (s.bay b).desc.peakDraw
        (oversize.getLsbD b.val = true ↔ waits ∧ large) ∧
        (spacing.getLsbD b.val = true ↔ waits ∧ ¬ large ∧ a.spacingTimer ≠ .idle) ∧
        (budget.getLsbD b.val = true ↔ waits ∧ ¬ large ∧ ∃ c, s.candidate = some c ∧ s.fits c = false)) ∧
      oversize.toNat < 4096 ∧ spacing.toNat < 4096 ∧ budget.toNat < 4096) ∧
    (∃ (causes : Byte) (load flight : Half),
      let t := (s.taken .caseQuery).acceptedRequest
      let p := t.policy
      let code (v : InputMode) : Nat := match v with | .off => 0 | .level => 1 | .edge => 2
      exec .caseQuery s = .next (t.sendReply 0xC1 .ok false
        ([BitVec.ofNat 8 (code p.handleMode + 4 * code p.lidMode + bit (p.handleState = true) 16 +
            bit (p.lidState = true) 32),
          BitVec.ofNat 8 p.period,
          BitVec.ofNat 8 (bit (p.action = .stop) 1 +
            (match p.supervision with | .off => 0 | .active _ => 2 | .lapsed => 4) + bit (p.gateOpen = true) 8 +
            bit (p.stopStanding = true) 16)] ++
          (match p.supervision with | .active e => left e | .off => le16 65535 | .lapsed => le16 65535) ++
          [BitVec.ofNat 8 (classCode p.classSeen + bit (p.tiltSeen = .tilted) 4 + bit (p.quietSeen = true) 8 +
            16 * supplyCode p.supplySeen), causes] ++ le16 load ++ le16 flight) false) ∧
      (causes.getLsbD 0 = true ↔ p.classSeen = .unprimed ∨ p.classSeen = .rough) ∧
      (causes.getLsbD 1 = true ↔ p.tiltSeen = .tilted) ∧ (causes.getLsbD 2 = true ↔ p.quietSeen = false) ∧
      (causes.getLsbD 3 = true ↔ p.supplySeen = .critical) ∧
      (causes.getLsbD 4 = true ↔ p.supervision = .lapsed) ∧
      (causes.getLsbD 5 = true ↔ p.handleMode = .level ∧ p.handleState = true) ∧
      (causes.getLsbD 6 = true ↔ p.lidMode = .level ∧ p.lidState = true) ∧ causes.toNat < 128 ∧
      (∀ b : BayId, load.getLsbD b.val = atBay p.loadPermission b ∧
        flight.getLsbD b.val = atBay p.flightPermission b) ∧
      load.toNat < 4096 ∧ flight.toNat < 4096)

end SliceObligations
end

