-- ==== Sys2Proof/Laws/State.lean ====
section
/-! SUPPORT. Reading a field after an update of State: one lemma per field and update, and the bays as `State.bay`
reads them. -/

namespace Sys2Proof.Machine

variable (s : State)

/-! ## setBay -/

@[simp] theorem setBay_clock (b : BayId) (x : Bay) : (s.setBay b x).clock = s.clock := rfl
@[simp] theorem setBay_phase (b : BayId) (x : Bay) : (s.setBay b x).phase = s.phase := rfl
@[simp] theorem setBay_cause (b : BayId) (x : Bay) : (s.setBay b x).cause = s.cause := rfl
@[simp] theorem setBay_bays (b : BayId) (x : Bay) : (s.setBay b x).bays = putBay s.bays b x := rfl
@[simp] theorem setBay_arbiter (b : BayId) (x : Bay) : (s.setBay b x).arbiter = s.arbiter := rfl
@[simp] theorem setBay_motion (b : BayId) (x : Bay) : (s.setBay b x).motion = s.motion := rfl
@[simp] theorem setBay_policy (b : BayId) (x : Bay) : (s.setBay b x).policy = s.policy := rfl
@[simp] theorem setBay_supply (b : BayId) (x : Bay) : (s.setBay b x).supply = s.supply := rfl
@[simp] theorem setBay_link (b : BayId) (x : Bay) : (s.setBay b x).link = s.link := rfl
@[simp] theorem setBay_notices (b : BayId) (x : Bay) : (s.setBay b x).notices = s.notices := rfl
@[simp] theorem setBay_faults (b : BayId) (x : Bay) : (s.setBay b x).faults = s.faults := rfl
@[simp] theorem setBay_inputs (b : BayId) (x : Bay) : (s.setBay b x).inputs = s.inputs := rfl
@[simp] theorem setBay_drawn (b : BayId) (x : Bay) : (s.setBay b x).drawn = s.drawn := rfl
@[simp] theorem setBay_inFlight (b : BayId) (x : Bay) : (s.setBay b x).inFlight = s.inFlight := rfl
@[simp] theorem setBay_pending (b : BayId) (x : Bay) : (s.setBay b x).pending = s.pending := rfl

/-! ## mapBay -/

@[simp] theorem mapBay_clock (b : BayId) (f : Bay → Bay) : (s.mapBay b f).clock = s.clock := rfl
@[simp] theorem mapBay_phase (b : BayId) (f : Bay → Bay) : (s.mapBay b f).phase = s.phase := rfl
@[simp] theorem mapBay_cause (b : BayId) (f : Bay → Bay) : (s.mapBay b f).cause = s.cause := rfl
@[simp] theorem mapBay_bays (b : BayId) (f : Bay → Bay) : (s.mapBay b f).bays = putBay s.bays b (f (s.bay b)) := rfl
@[simp] theorem mapBay_arbiter (b : BayId) (f : Bay → Bay) : (s.mapBay b f).arbiter = s.arbiter := rfl
@[simp] theorem mapBay_motion (b : BayId) (f : Bay → Bay) : (s.mapBay b f).motion = s.motion := rfl
@[simp] theorem mapBay_policy (b : BayId) (f : Bay → Bay) : (s.mapBay b f).policy = s.policy := rfl
@[simp] theorem mapBay_supply (b : BayId) (f : Bay → Bay) : (s.mapBay b f).supply = s.supply := rfl
@[simp] theorem mapBay_link (b : BayId) (f : Bay → Bay) : (s.mapBay b f).link = s.link := rfl
@[simp] theorem mapBay_notices (b : BayId) (f : Bay → Bay) : (s.mapBay b f).notices = s.notices := rfl
@[simp] theorem mapBay_faults (b : BayId) (f : Bay → Bay) : (s.mapBay b f).faults = s.faults := rfl
@[simp] theorem mapBay_inputs (b : BayId) (f : Bay → Bay) : (s.mapBay b f).inputs = s.inputs := rfl
@[simp] theorem mapBay_drawn (b : BayId) (f : Bay → Bay) : (s.mapBay b f).drawn = s.drawn := rfl
@[simp] theorem mapBay_inFlight (b : BayId) (f : Bay → Bay) : (s.mapBay b f).inFlight = s.inFlight := rfl
@[simp] theorem mapBay_pending (b : BayId) (f : Bay → Bay) : (s.mapBay b f).pending = s.pending := rfl

/-! ## setArbiter -/

@[simp] theorem setArbiter_clock (x : Arbiter) : (s.setArbiter x).clock = s.clock := rfl
@[simp] theorem setArbiter_phase (x : Arbiter) : (s.setArbiter x).phase = s.phase := rfl
@[simp] theorem setArbiter_cause (x : Arbiter) : (s.setArbiter x).cause = s.cause := rfl
@[simp] theorem setArbiter_bays (x : Arbiter) : (s.setArbiter x).bays = s.bays := rfl
@[simp] theorem setArbiter_arbiter (x : Arbiter) : (s.setArbiter x).arbiter = x := rfl
@[simp] theorem setArbiter_motion (x : Arbiter) : (s.setArbiter x).motion = s.motion := rfl
@[simp] theorem setArbiter_policy (x : Arbiter) : (s.setArbiter x).policy = s.policy := rfl
@[simp] theorem setArbiter_supply (x : Arbiter) : (s.setArbiter x).supply = s.supply := rfl
@[simp] theorem setArbiter_link (x : Arbiter) : (s.setArbiter x).link = s.link := rfl
@[simp] theorem setArbiter_notices (x : Arbiter) : (s.setArbiter x).notices = s.notices := rfl
@[simp] theorem setArbiter_faults (x : Arbiter) : (s.setArbiter x).faults = s.faults := rfl
@[simp] theorem setArbiter_inputs (x : Arbiter) : (s.setArbiter x).inputs = s.inputs := rfl
@[simp] theorem setArbiter_drawn (x : Arbiter) : (s.setArbiter x).drawn = s.drawn := rfl
@[simp] theorem setArbiter_inFlight (x : Arbiter) : (s.setArbiter x).inFlight = s.inFlight := rfl
@[simp] theorem setArbiter_pending (x : Arbiter) : (s.setArbiter x).pending = s.pending := rfl
@[simp] theorem setArbiter_bay (x : Arbiter) (i : BayId) : (s.setArbiter x).bay i = s.bay i := rfl

/-! ## setMotion -/

@[simp] theorem setMotion_clock (x : Motion) : (s.setMotion x).clock = s.clock := rfl
@[simp] theorem setMotion_phase (x : Motion) : (s.setMotion x).phase = s.phase := rfl
@[simp] theorem setMotion_cause (x : Motion) : (s.setMotion x).cause = s.cause := rfl
@[simp] theorem setMotion_bays (x : Motion) : (s.setMotion x).bays = s.bays := rfl
@[simp] theorem setMotion_arbiter (x : Motion) : (s.setMotion x).arbiter = s.arbiter := rfl
@[simp] theorem setMotion_motion (x : Motion) : (s.setMotion x).motion = x := rfl
@[simp] theorem setMotion_policy (x : Motion) : (s.setMotion x).policy = s.policy := rfl
@[simp] theorem setMotion_supply (x : Motion) : (s.setMotion x).supply = s.supply := rfl
@[simp] theorem setMotion_link (x : Motion) : (s.setMotion x).link = s.link := rfl
@[simp] theorem setMotion_notices (x : Motion) : (s.setMotion x).notices = s.notices := rfl
@[simp] theorem setMotion_faults (x : Motion) : (s.setMotion x).faults = s.faults := rfl
@[simp] theorem setMotion_inputs (x : Motion) : (s.setMotion x).inputs = s.inputs := rfl
@[simp] theorem setMotion_drawn (x : Motion) : (s.setMotion x).drawn = s.drawn := rfl
@[simp] theorem setMotion_inFlight (x : Motion) : (s.setMotion x).inFlight = s.inFlight := rfl
@[simp] theorem setMotion_pending (x : Motion) : (s.setMotion x).pending = s.pending := rfl
@[simp] theorem setMotion_bay (x : Motion) (i : BayId) : (s.setMotion x).bay i = s.bay i := rfl

/-! ## setPolicy -/

@[simp] theorem setPolicy_clock (x : Policy) : (s.setPolicy x).clock = s.clock := rfl
@[simp] theorem setPolicy_phase (x : Policy) : (s.setPolicy x).phase = s.phase := rfl
@[simp] theorem setPolicy_cause (x : Policy) : (s.setPolicy x).cause = s.cause := rfl
@[simp] theorem setPolicy_bays (x : Policy) : (s.setPolicy x).bays = s.bays := rfl
@[simp] theorem setPolicy_arbiter (x : Policy) : (s.setPolicy x).arbiter = s.arbiter := rfl
@[simp] theorem setPolicy_motion (x : Policy) : (s.setPolicy x).motion = s.motion := rfl
@[simp] theorem setPolicy_policy (x : Policy) : (s.setPolicy x).policy = x := rfl
@[simp] theorem setPolicy_supply (x : Policy) : (s.setPolicy x).supply = s.supply := rfl
@[simp] theorem setPolicy_link (x : Policy) : (s.setPolicy x).link = s.link := rfl
@[simp] theorem setPolicy_notices (x : Policy) : (s.setPolicy x).notices = s.notices := rfl
@[simp] theorem setPolicy_faults (x : Policy) : (s.setPolicy x).faults = s.faults := rfl
@[simp] theorem setPolicy_inputs (x : Policy) : (s.setPolicy x).inputs = s.inputs := rfl
@[simp] theorem setPolicy_drawn (x : Policy) : (s.setPolicy x).drawn = s.drawn := rfl
@[simp] theorem setPolicy_inFlight (x : Policy) : (s.setPolicy x).inFlight = s.inFlight := rfl
@[simp] theorem setPolicy_pending (x : Policy) : (s.setPolicy x).pending = s.pending := rfl
@[simp] theorem setPolicy_bay (x : Policy) (i : BayId) : (s.setPolicy x).bay i = s.bay i := rfl

/-! ## setSupply -/

@[simp] theorem setSupply_clock (x : Supply) : (s.setSupply x).clock = s.clock := rfl
@[simp] theorem setSupply_phase (x : Supply) : (s.setSupply x).phase = s.phase := rfl
@[simp] theorem setSupply_cause (x : Supply) : (s.setSupply x).cause = s.cause := rfl
@[simp] theorem setSupply_bays (x : Supply) : (s.setSupply x).bays = s.bays := rfl
@[simp] theorem setSupply_arbiter (x : Supply) : (s.setSupply x).arbiter = s.arbiter := rfl
@[simp] theorem setSupply_motion (x : Supply) : (s.setSupply x).motion = s.motion := rfl
@[simp] theorem setSupply_policy (x : Supply) : (s.setSupply x).policy = s.policy := rfl
@[simp] theorem setSupply_supply (x : Supply) : (s.setSupply x).supply = x := rfl
@[simp] theorem setSupply_link (x : Supply) : (s.setSupply x).link = s.link := rfl
@[simp] theorem setSupply_notices (x : Supply) : (s.setSupply x).notices = s.notices := rfl
@[simp] theorem setSupply_faults (x : Supply) : (s.setSupply x).faults = s.faults := rfl
@[simp] theorem setSupply_inputs (x : Supply) : (s.setSupply x).inputs = s.inputs := rfl
@[simp] theorem setSupply_drawn (x : Supply) : (s.setSupply x).drawn = s.drawn := rfl
@[simp] theorem setSupply_inFlight (x : Supply) : (s.setSupply x).inFlight = s.inFlight := rfl
@[simp] theorem setSupply_pending (x : Supply) : (s.setSupply x).pending = s.pending := rfl
@[simp] theorem setSupply_bay (x : Supply) (i : BayId) : (s.setSupply x).bay i = s.bay i := rfl

/-! ## setLink -/

@[simp] theorem setLink_clock (x : Link) : (s.setLink x).clock = s.clock := rfl
@[simp] theorem setLink_phase (x : Link) : (s.setLink x).phase = s.phase := rfl
@[simp] theorem setLink_cause (x : Link) : (s.setLink x).cause = s.cause := rfl
@[simp] theorem setLink_bays (x : Link) : (s.setLink x).bays = s.bays := rfl
@[simp] theorem setLink_arbiter (x : Link) : (s.setLink x).arbiter = s.arbiter := rfl
@[simp] theorem setLink_motion (x : Link) : (s.setLink x).motion = s.motion := rfl
@[simp] theorem setLink_policy (x : Link) : (s.setLink x).policy = s.policy := rfl
@[simp] theorem setLink_supply (x : Link) : (s.setLink x).supply = s.supply := rfl
@[simp] theorem setLink_link (x : Link) : (s.setLink x).link = x := rfl
@[simp] theorem setLink_notices (x : Link) : (s.setLink x).notices = s.notices := rfl
@[simp] theorem setLink_faults (x : Link) : (s.setLink x).faults = s.faults := rfl
@[simp] theorem setLink_inputs (x : Link) : (s.setLink x).inputs = s.inputs := rfl
@[simp] theorem setLink_drawn (x : Link) : (s.setLink x).drawn = s.drawn := rfl
@[simp] theorem setLink_inFlight (x : Link) : (s.setLink x).inFlight = s.inFlight := rfl
@[simp] theorem setLink_pending (x : Link) : (s.setLink x).pending = s.pending := rfl
@[simp] theorem setLink_bay (x : Link) (i : BayId) : (s.setLink x).bay i = s.bay i := rfl

/-! ## setNotices -/

@[simp] theorem setNotices_clock (x : Notices) : (s.setNotices x).clock = s.clock := rfl
@[simp] theorem setNotices_phase (x : Notices) : (s.setNotices x).phase = s.phase := rfl
@[simp] theorem setNotices_cause (x : Notices) : (s.setNotices x).cause = s.cause := rfl
@[simp] theorem setNotices_bays (x : Notices) : (s.setNotices x).bays = s.bays := rfl
@[simp] theorem setNotices_arbiter (x : Notices) : (s.setNotices x).arbiter = s.arbiter := rfl
@[simp] theorem setNotices_motion (x : Notices) : (s.setNotices x).motion = s.motion := rfl
@[simp] theorem setNotices_policy (x : Notices) : (s.setNotices x).policy = s.policy := rfl
@[simp] theorem setNotices_supply (x : Notices) : (s.setNotices x).supply = s.supply := rfl
@[simp] theorem setNotices_link (x : Notices) : (s.setNotices x).link = s.link := rfl
@[simp] theorem setNotices_notices (x : Notices) : (s.setNotices x).notices = x := rfl
@[simp] theorem setNotices_faults (x : Notices) : (s.setNotices x).faults = s.faults := rfl
@[simp] theorem setNotices_inputs (x : Notices) : (s.setNotices x).inputs = s.inputs := rfl
@[simp] theorem setNotices_drawn (x : Notices) : (s.setNotices x).drawn = s.drawn := rfl
@[simp] theorem setNotices_inFlight (x : Notices) : (s.setNotices x).inFlight = s.inFlight := rfl
@[simp] theorem setNotices_pending (x : Notices) : (s.setNotices x).pending = s.pending := rfl
@[simp] theorem setNotices_bay (x : Notices) (i : BayId) : (s.setNotices x).bay i = s.bay i := rfl

/-! ## setFaults -/

@[simp] theorem setFaults_clock (x : FaultRecord) : (s.setFaults x).clock = s.clock := rfl
@[simp] theorem setFaults_phase (x : FaultRecord) : (s.setFaults x).phase = s.phase := rfl
@[simp] theorem setFaults_cause (x : FaultRecord) : (s.setFaults x).cause = s.cause := rfl
@[simp] theorem setFaults_bays (x : FaultRecord) : (s.setFaults x).bays = s.bays := rfl
@[simp] theorem setFaults_arbiter (x : FaultRecord) : (s.setFaults x).arbiter = s.arbiter := rfl
@[simp] theorem setFaults_motion (x : FaultRecord) : (s.setFaults x).motion = s.motion := rfl
@[simp] theorem setFaults_policy (x : FaultRecord) : (s.setFaults x).policy = s.policy := rfl
@[simp] theorem setFaults_supply (x : FaultRecord) : (s.setFaults x).supply = s.supply := rfl
@[simp] theorem setFaults_link (x : FaultRecord) : (s.setFaults x).link = s.link := rfl
@[simp] theorem setFaults_notices (x : FaultRecord) : (s.setFaults x).notices = s.notices := rfl
@[simp] theorem setFaults_faults (x : FaultRecord) : (s.setFaults x).faults = x := rfl
@[simp] theorem setFaults_inputs (x : FaultRecord) : (s.setFaults x).inputs = s.inputs := rfl
@[simp] theorem setFaults_drawn (x : FaultRecord) : (s.setFaults x).drawn = s.drawn := rfl
@[simp] theorem setFaults_inFlight (x : FaultRecord) : (s.setFaults x).inFlight = s.inFlight := rfl
@[simp] theorem setFaults_pending (x : FaultRecord) : (s.setFaults x).pending = s.pending := rfl
@[simp] theorem setFaults_bay (x : FaultRecord) (i : BayId) : (s.setFaults x).bay i = s.bay i := rfl

/-! ## setPhase -/

@[simp] theorem setPhase_clock (x : Phase) : (s.setPhase x).clock = s.clock := rfl
@[simp] theorem setPhase_phase (x : Phase) : (s.setPhase x).phase = x := rfl
@[simp] theorem setPhase_cause (x : Phase) : (s.setPhase x).cause = s.cause := rfl
@[simp] theorem setPhase_bays (x : Phase) : (s.setPhase x).bays = s.bays := rfl
@[simp] theorem setPhase_arbiter (x : Phase) : (s.setPhase x).arbiter = s.arbiter := rfl
@[simp] theorem setPhase_motion (x : Phase) : (s.setPhase x).motion = s.motion := rfl
@[simp] theorem setPhase_policy (x : Phase) : (s.setPhase x).policy = s.policy := rfl
@[simp] theorem setPhase_supply (x : Phase) : (s.setPhase x).supply = s.supply := rfl
@[simp] theorem setPhase_link (x : Phase) : (s.setPhase x).link = s.link := rfl
@[simp] theorem setPhase_notices (x : Phase) : (s.setPhase x).notices = s.notices := rfl
@[simp] theorem setPhase_faults (x : Phase) : (s.setPhase x).faults = s.faults := rfl
@[simp] theorem setPhase_inputs (x : Phase) : (s.setPhase x).inputs = s.inputs := rfl
@[simp] theorem setPhase_drawn (x : Phase) : (s.setPhase x).drawn = s.drawn := rfl
@[simp] theorem setPhase_inFlight (x : Phase) : (s.setPhase x).inFlight = s.inFlight := rfl
@[simp] theorem setPhase_pending (x : Phase) : (s.setPhase x).pending = s.pending := rfl
@[simp] theorem setPhase_bay (x : Phase) (i : BayId) : (s.setPhase x).bay i = s.bay i := rfl

/-! ## setCause -/

@[simp] theorem setCause_clock (x : ResetCause) : (s.setCause x).clock = s.clock := rfl
@[simp] theorem setCause_phase (x : ResetCause) : (s.setCause x).phase = s.phase := rfl
@[simp] theorem setCause_cause (x : ResetCause) : (s.setCause x).cause = x := rfl
@[simp] theorem setCause_bays (x : ResetCause) : (s.setCause x).bays = s.bays := rfl
@[simp] theorem setCause_arbiter (x : ResetCause) : (s.setCause x).arbiter = s.arbiter := rfl
@[simp] theorem setCause_motion (x : ResetCause) : (s.setCause x).motion = s.motion := rfl
@[simp] theorem setCause_policy (x : ResetCause) : (s.setCause x).policy = s.policy := rfl
@[simp] theorem setCause_supply (x : ResetCause) : (s.setCause x).supply = s.supply := rfl
@[simp] theorem setCause_link (x : ResetCause) : (s.setCause x).link = s.link := rfl
@[simp] theorem setCause_notices (x : ResetCause) : (s.setCause x).notices = s.notices := rfl
@[simp] theorem setCause_faults (x : ResetCause) : (s.setCause x).faults = s.faults := rfl
@[simp] theorem setCause_inputs (x : ResetCause) : (s.setCause x).inputs = s.inputs := rfl
@[simp] theorem setCause_drawn (x : ResetCause) : (s.setCause x).drawn = s.drawn := rfl
@[simp] theorem setCause_inFlight (x : ResetCause) : (s.setCause x).inFlight = s.inFlight := rfl
@[simp] theorem setCause_pending (x : ResetCause) : (s.setCause x).pending = s.pending := rfl
@[simp] theorem setCause_bay (x : ResetCause) (i : BayId) : (s.setCause x).bay i = s.bay i := rfl

/-! ## setClock -/

@[simp] theorem setClock_clock (x : Clock) : (s.setClock x).clock = x := rfl
@[simp] theorem setClock_phase (x : Clock) : (s.setClock x).phase = s.phase := rfl
@[simp] theorem setClock_cause (x : Clock) : (s.setClock x).cause = s.cause := rfl
@[simp] theorem setClock_bays (x : Clock) : (s.setClock x).bays = s.bays := rfl
@[simp] theorem setClock_arbiter (x : Clock) : (s.setClock x).arbiter = s.arbiter := rfl
@[simp] theorem setClock_motion (x : Clock) : (s.setClock x).motion = s.motion := rfl
@[simp] theorem setClock_policy (x : Clock) : (s.setClock x).policy = s.policy := rfl
@[simp] theorem setClock_supply (x : Clock) : (s.setClock x).supply = s.supply := rfl
@[simp] theorem setClock_link (x : Clock) : (s.setClock x).link = s.link := rfl
@[simp] theorem setClock_notices (x : Clock) : (s.setClock x).notices = s.notices := rfl
@[simp] theorem setClock_faults (x : Clock) : (s.setClock x).faults = s.faults := rfl
@[simp] theorem setClock_inputs (x : Clock) : (s.setClock x).inputs = s.inputs := rfl
@[simp] theorem setClock_drawn (x : Clock) : (s.setClock x).drawn = s.drawn := rfl
@[simp] theorem setClock_inFlight (x : Clock) : (s.setClock x).inFlight = s.inFlight := rfl
@[simp] theorem setClock_pending (x : Clock) : (s.setClock x).pending = s.pending := rfl
@[simp] theorem setClock_bay (x : Clock) (i : BayId) : (s.setClock x).bay i = s.bay i := rfl

/-! ## drawFree -/

@[simp] theorem drawFree_clock : s.drawFree.clock = s.clock := rfl
@[simp] theorem drawFree_phase : s.drawFree.phase = s.phase := rfl
@[simp] theorem drawFree_cause : s.drawFree.cause = s.cause := rfl
@[simp] theorem drawFree_bays : s.drawFree.bays = s.bays := rfl
@[simp] theorem drawFree_arbiter : s.drawFree.arbiter = s.arbiter := rfl
@[simp] theorem drawFree_motion : s.drawFree.motion = s.motion := rfl
@[simp] theorem drawFree_policy : s.drawFree.policy = s.policy := rfl
@[simp] theorem drawFree_supply : s.drawFree.supply = s.supply := rfl
@[simp] theorem drawFree_link : s.drawFree.link = s.link := rfl
@[simp] theorem drawFree_notices : s.drawFree.notices = s.notices := rfl
@[simp] theorem drawFree_faults : s.drawFree.faults = s.faults := rfl
@[simp] theorem drawFree_inputs : s.drawFree.inputs = s.inputs := rfl
@[simp] theorem drawFree_drawn : s.drawFree.drawn = s.drawn + 1 := rfl
@[simp] theorem drawFree_inFlight : s.drawFree.inFlight = s.inFlight := rfl
@[simp] theorem drawFree_pending : s.drawFree.pending = s.pending := rfl
@[simp] theorem drawFree_bay (i : BayId) : s.drawFree.bay i = s.bay i := rfl

/-! ## handOn -/

@[simp] theorem handOn_clock (l : List Instr) : (s.handOn l).clock = s.clock := rfl
@[simp] theorem handOn_phase (l : List Instr) : (s.handOn l).phase = s.phase := rfl
@[simp] theorem handOn_cause (l : List Instr) : (s.handOn l).cause = s.cause := rfl
@[simp] theorem handOn_bays (l : List Instr) : (s.handOn l).bays = s.bays := rfl
@[simp] theorem handOn_arbiter (l : List Instr) : (s.handOn l).arbiter = s.arbiter := rfl
@[simp] theorem handOn_motion (l : List Instr) : (s.handOn l).motion = s.motion := rfl
@[simp] theorem handOn_policy (l : List Instr) : (s.handOn l).policy = s.policy := rfl
@[simp] theorem handOn_supply (l : List Instr) : (s.handOn l).supply = s.supply := rfl
@[simp] theorem handOn_link (l : List Instr) : (s.handOn l).link = s.link := rfl
@[simp] theorem handOn_notices (l : List Instr) : (s.handOn l).notices = s.notices := rfl
@[simp] theorem handOn_faults (l : List Instr) : (s.handOn l).faults = s.faults := rfl
@[simp] theorem handOn_inputs (l : List Instr) : (s.handOn l).inputs = s.inputs := rfl
@[simp] theorem handOn_drawn (l : List Instr) : (s.handOn l).drawn = s.drawn := rfl
@[simp] theorem handOn_inFlight (l : List Instr) : (s.handOn l).inFlight = s.inFlight ++ l := rfl
@[simp] theorem handOn_pending (l : List Instr) : (s.handOn l).pending = s.pending := rfl
@[simp] theorem handOn_bay (l : List Instr) (i : BayId) : (s.handOn l).bay i = s.bay i := rfl

/-! ## taken -/

@[simp] theorem taken_clock (c : Instr) : (s.taken c).clock = s.clock := rfl
@[simp] theorem taken_phase (c : Instr) : (s.taken c).phase = s.phase := rfl
@[simp] theorem taken_cause (c : Instr) : (s.taken c).cause = s.cause := rfl
@[simp] theorem taken_bays (c : Instr) : (s.taken c).bays = s.bays := rfl
@[simp] theorem taken_arbiter (c : Instr) : (s.taken c).arbiter = s.arbiter := rfl
@[simp] theorem taken_motion (c : Instr) : (s.taken c).motion = s.motion := rfl
@[simp] theorem taken_policy (c : Instr) : (s.taken c).policy = s.policy := rfl
@[simp] theorem taken_supply (c : Instr) : (s.taken c).supply = s.supply := rfl
@[simp] theorem taken_link (c : Instr) : (s.taken c).link = s.link := rfl
@[simp] theorem taken_notices (c : Instr) : (s.taken c).notices = s.notices := rfl
@[simp] theorem taken_faults (c : Instr) : (s.taken c).faults = s.faults := rfl
@[simp] theorem taken_inputs (c : Instr) : (s.taken c).inputs = s.inputs := rfl
@[simp] theorem taken_drawn (c : Instr) : (s.taken c).drawn = s.drawn := rfl
@[simp] theorem taken_inFlight (c : Instr) : (s.taken c).inFlight = s.inFlight.erase c := rfl
@[simp] theorem taken_pending (c : Instr) : (s.taken c).pending = s.pending := rfl
@[simp] theorem taken_bay (c : Instr) (i : BayId) : (s.taken c).bay i = s.bay i := rfl

/-! ## post -/

@[simp] theorem post_clock (k : Key) (p : NoticePayload) : (s.post k p).clock = s.clock := rfl
@[simp] theorem post_phase (k : Key) (p : NoticePayload) : (s.post k p).phase = s.phase := rfl
@[simp] theorem post_cause (k : Key) (p : NoticePayload) : (s.post k p).cause = s.cause := rfl
@[simp] theorem post_bays (k : Key) (p : NoticePayload) : (s.post k p).bays = s.bays := rfl
@[simp] theorem post_arbiter (k : Key) (p : NoticePayload) : (s.post k p).arbiter = s.arbiter := rfl
@[simp] theorem post_motion (k : Key) (p : NoticePayload) : (s.post k p).motion = s.motion := rfl
@[simp] theorem post_policy (k : Key) (p : NoticePayload) : (s.post k p).policy = s.policy := rfl
@[simp] theorem post_supply (k : Key) (p : NoticePayload) : (s.post k p).supply = s.supply := rfl
@[simp] theorem post_link (k : Key) (p : NoticePayload) : (s.post k p).link = s.link := rfl
@[simp] theorem post_notices (k : Key) (p : NoticePayload) : (s.post k p).notices = s.notices := rfl
@[simp] theorem post_faults (k : Key) (p : NoticePayload) : (s.post k p).faults = s.faults := rfl
@[simp] theorem post_inputs (k : Key) (p : NoticePayload) : (s.post k p).inputs = s.inputs := rfl
@[simp] theorem post_drawn (k : Key) (p : NoticePayload) : (s.post k p).drawn = s.drawn := rfl
@[simp] theorem post_inFlight (k : Key) (p : NoticePayload) : (s.post k p).inFlight = s.inFlight ++ [.noticePost k s.clock p] := rfl
@[simp] theorem post_pending (k : Key) (p : NoticePayload) : (s.post k p).pending = s.pending := rfl
@[simp] theorem post_bay (k : Key) (p : NoticePayload) (i : BayId) : (s.post k p).bay i = s.bay i := rfl

/-! ## Tables of twelve -/

@[simp] theorem atBay_putBay_same {α : Type} (v : Vector α 12) (b : BayId) (x : α) : atBay (putBay v b x) b = x := by
  simp [atBay, putBay]

theorem atBay_putBay_ne {α : Type} (v : Vector α 12) {b i : BayId} (x : α) (h : i ≠ b) :
    atBay (putBay v b x) i = atBay v i := by
  have h' : b.val ≠ i.val := fun e => h (Fin.ext e.symm)
  simp [atBay, putBay, Vector.getElem_set_ne, h']

theorem atBay_putBay {α : Type} (v : Vector α 12) (b i : BayId) (x : α) :
    atBay (putBay v b x) i = if i = b then x else atBay v i := by
  by_cases h : i = b
  · subst h; simp
  · simp [atBay_putBay_ne v x h, h]

@[simp] theorem putBay_same {α : Type} (v : Vector α 12) (b : BayId) : putBay v b (atBay v b) = v := by
  simp [atBay, putBay]

@[simp] theorem putBay_putBay {α : Type} (v : Vector α 12) (b : BayId) (x y : α) :
    putBay (putBay v b x) b y = putBay v b y := by
  simp [putBay]

/-- Two tables with equal entries are equal. -/
theorem table_ext {α : Type} {v w : Vector α 12} (h : ∀ b, atBay v b = atBay w b) : v = w := by
  apply Vector.ext; intro i hi; exact h ⟨i, hi⟩

@[simp] theorem setBay_bay_same (b : BayId) (x : Bay) : (s.setBay b x).bay b = x := atBay_putBay_same ..

theorem setBay_bay (b i : BayId) (x : Bay) : (s.setBay b x).bay i = if i = b then x else s.bay i := atBay_putBay ..

theorem setBay_bay_ne {b i : BayId} (x : Bay) (h : i ≠ b) : (s.setBay b x).bay i = s.bay i := atBay_putBay_ne _ _ h

@[simp] theorem mapBay_bay_same (b : BayId) (f : Bay → Bay) : (s.mapBay b f).bay b = f (s.bay b) := atBay_putBay_same ..

theorem mapBay_bay (b i : BayId) (f : Bay → Bay) : (s.mapBay b f).bay i = if i = b then f (s.bay b) else s.bay i :=
  atBay_putBay ..

theorem mapBay_bay_ne {b i : BayId} (f : Bay → Bay) (h : i ≠ b) : (s.mapBay b f).bay i = s.bay i := atBay_putBay_ne _ _ h

@[simp] theorem setBay_setBay (b : BayId) (x y : Bay) : (s.setBay b x).setBay b y = s.setBay b y := by
  simp [State.setBay]

@[simp] theorem mapBay_mapBay (b : BayId) (f g : Bay → Bay) : (s.mapBay b f).mapBay b g = s.mapBay b (fun x => g (f x)) := by
  simp [State.mapBay]

@[simp] theorem setBay_same (b : BayId) : s.setBay b (s.bay b) = s := by
  simp [State.setBay, State.bay]

@[simp] theorem handOn_nil : s.handOn [] = s := by simp [State.handOn]

@[simp] theorem handOn_handOn (l m : List Instr) : (s.handOn l).handOn m = s.handOn (l ++ m) := by
  simp [State.handOn]

end Sys2Proof.Machine
end

