-- ==== Sys2Proof/Laws/Ops.lean ====
section
/-! SUPPORT. The named operations: what an event does, timers, operands brought into range, tables of twelve. -/

namespace Sys2Proof.Machine

/-! ## Events -/

/-- Past the start-up interval an event is taken and has its effect. -/
theorem event_operating {s : State} (h : s.phase = .operating) (c : Instr) (f : State → State) :
    s.event c f = .next (f (s.taken c)) := by simp [State.event, State.operating, h]

/-- In reset and in a start-up interval an event is taken and nothing more. -/
theorem event_not_operating {s : State} (h : s.phase ≠ .operating) (c : Instr) (f : State → State) :
    s.event c f = .next (s.taken c) := by simp [State.event, State.operating, h]

/-- Whatever the phase, an event answers a next state, one of the two. -/
theorem event_next {s t : State} {c : Instr} {f : State → State} (h : s.event c f = .next t) :
    (s.phase = .operating ∧ t = f (s.taken c)) ∨ (s.phase ≠ .operating ∧ t = s.taken c) := by
  by_cases hp : s.phase = .operating
  · rw [event_operating hp] at h; exact .inl ⟨hp, by cases h; rfl⟩
  · rw [event_not_operating hp] at h; exact .inr ⟨hp, by cases h; rfl⟩

/-- A report that is not in flight is taken without a trace. -/
theorem taken_of_not_mem {s : State} {c : Instr} (h : c ∉ s.inFlight) : s.taken c = s := by
  simp [State.taken, List.erase_of_not_mem h]

theorem post_eq (s : State) (k : Key) (p : NoticePayload) : s.post k p = s.handOn [.noticePost k s.clock p] := rfl

/-! ## Timers -/

@[simp] theorem due_idle (now : Clock) : Timer.due now .idle = false := rfl
@[simp] theorem due_running (now e : Clock) : Timer.due now (.running e) = reached now e := rfl

theorem due_eq_true {now : Clock} {t : Timer} : t.due now = true ↔ ∃ e, t = .running e ∧ reached now e = true := by
  cases t <;> simp

@[simp] theorem after_ne_idle (now : Clock) (ms : Nat) : Timer.after now ms ≠ .idle := by simp [Timer.after]

/-- A timer has just reached its expiry when the clock stands there. -/
@[simp] theorem reached_self (now : Clock) : reached now now = true := by simp [reached, since]

/-- An expiry up to 2^31 ms ahead has not been reached. -/
theorem not_reached_later {now : Clock} {ms : Nat} (h0 : 0 < ms) (h1 : ms ≤ 2147483648) :
    reached now (later now ms) = false := by
  have h : since now (later now ms) = 4294967296 - ms := by
    have := now.isLt
    simp only [since, later, BitVec.toNat_sub, BitVec.toNat_add, BitVec.toNat_ofNat]
    omega
  unfold reached
  rw [decide_eq_false_iff_not, h]
  omega

/-! ## Operands -/

theorem clamp_eq (lo hi x : Nat) (h : lo ≤ hi) : clamp lo hi x = if x < lo then lo else if hi < x then hi else x := by
  simp only [clamp]; split <;> (try split) <;> omega

theorem le_clamp {lo hi x : Nat} : lo ≤ clamp lo hi x := by simp only [clamp]; omega

theorem clamp_le {lo hi x : Nat} (h : lo ≤ hi) : clamp lo hi x ≤ hi := by simp only [clamp]; omega

theorem clamp_of_mem {lo hi x : Nat} (h1 : lo ≤ x) (h2 : x ≤ hi) : clamp lo hi x = x := by simp only [clamp]; omega

theorem bayOf_none {b : Byte} (h : 12 ≤ b.toNat) : bayOf b = none := by simp [bayOf, Nat.not_lt.mpr h]

@[simp] theorem bayOf_val (b : BayId) : bayOf (BitVec.ofNat 8 b.val) = some b := by revert b; decide

theorem bayOf_some {x : Byte} {b : BayId} (h : bayOf x = some b) : x = BitVec.ofNat 8 b.val := by
  simp only [bayOf] at h
  split at h
  · cases h; simp
  · cases h

theorem baysOf_none {x : Half} (h : 4096 ≤ x.toNat) : baysOf x = none := by simp [baysOf, Nat.not_lt.mpr h]

theorem baysOf_some {x : Half} (h : x.toNat < 4096) : baysOf x = some (bayIds.filter fun b => x.getLsbD b.val) := by
  simp [baysOf, h]

/-! ## Sets as bits -/

/-- A set of bays names no bay above 11 (R190). -/
theorem baySet_lt (f : BayId → Bool) : (baySet f).toNat < 4096 := by
  have h : ∀ b, (f b).toNat ≤ 1 := fun b => Bool.toNat_le (f b)
  simp only [baySet, BitVec.toNat_ofNat]
  have := h 0; have := h 1; have := h 2; have := h 3; have := h 4; have := h 5
  have := h 6; have := h 7; have := h 8; have := h 9; have := h 10; have := h 11
  omega

/-- Bit b of a set of bays is bay b's (R190). -/
theorem baySet_bit (f : BayId → Bool) (b : BayId) : (baySet f).getLsbD b.val = f b := by
  have h : ∀ b, (f b).toNat ≤ 1 := fun b => Bool.toNat_le (f b)
  have hb : b.val < 16 := by omega
  have key : ∀ {n i : Nat} {x : Bool}, n / 2 ^ i % 2 = x.toNat → n.testBit i = x := by
    intro n i x hx
    rw [Nat.testBit_eq_decide_div_mod_eq, hx]
    cases x <;> rfl
  simp only [baySet, BitVec.getLsbD_ofNat, hb, decide_true, Bool.true_and]
  apply key
  have := h 0; have := h 1; have := h 2; have := h 3; have := h 4; have := h 5
  have := h 6; have := h 7; have := h 8; have := h 9; have := h 10; have := h 11
  have eb : b = 0 ∨ b = 1 ∨ b = 2 ∨ b = 3 ∨ b = 4 ∨ b = 5 ∨ b = 6 ∨ b = 7 ∨ b = 8 ∨ b = 9 ∨ b = 10 ∨ b = 11 := by
    clear * -; revert b; decide
  rcases eb with rfl | rfl | rfl | rfl | rfl | rfl | rfl | rfl | rfl | rfl | rfl | rfl <;>
    simp only [Fin.isValue, Fin.coe_ofNat_eq_mod, Nat.reduceMod, Nat.reducePow] <;> omega

/-! ## Tables of twelve -/

theorem mem_bayIds (b : BayId) : b ∈ bayIds := by revert b; decide

theorem nodup_bayIds : bayIds.Nodup := by decide

theorem atBay_tableOf {α : Type} (f : BayId → α) (b : BayId) : atBay (tableOf f) b = f b := by
  fin_cases b <;> rfl

@[simp] theorem atBay_replicate {α : Type} (x : α) (b : BayId) : atBay (Vector.replicate 12 x) b = x := by
  simp [atBay]

/-- Replacing one entry of a table changes its sum by the difference. -/
theorem sum_putBay (v : Vector Nat 12) (b : BayId) (x : Nat) :
    (bayIds.map (atBay (putBay v b x))).sum + atBay v b = (bayIds.map (atBay v)).sum + x := by
  fin_cases b <;> simp [bayIds, atBay, putBay] <;> omega

end Sys2Proof.Machine
end

