-- ==== Sys2Proof/Laws/Arbiter.lean ====
section
/-! SUPPORT. The Spin Arbiter: what a candidate is, what one grant does, what an evaluation can do, draw reports. -/

namespace Sys2Proof.Machine

/-! ## Candidates -/

/-- A candidate waits in the queue and is not OVERSIZE. -/
theorem candidate_mem {s : State} {b : BayId} (h : s.candidate = some b) :
    b ∈ s.arbiter.queue ∧ s.oversize b = false := by
  obtain ⟨level, -, hl⟩ := List.exists_of_findSome?_eq_some h
  have := List.find?_some hl
  simp only [Bool.and_eq_true, List.contains_eq_mem, decide_eq_true_eq, Bool.not_eq_true'] at this
  exact ⟨this.1.1, this.1.2⟩

theorem fits_iff {s : State} {b : BayId} :
    s.fits b = true ↔ s.arbiter.committed + (s.bay b).desc.peakDraw ≤ s.arbiter.budget := by simp [State.fits]

/-- Two states with the same arbiter and the same descriptors and priorities have the same candidate. -/
theorem candidate_congr {s t : State} (ha : t.arbiter = s.arbiter)
    (hd : ∀ b, (t.bay b).desc.peakDraw = (s.bay b).desc.peakDraw)
    (hp : ∀ b, (t.bay b).priority = (s.bay b).priority) : t.candidate = s.candidate := by
  simp only [State.candidate, State.oversize, ha, hd, hp]

theorem fits_congr {s t : State} (ha : t.arbiter = s.arbiter) {b : BayId}
    (hd : (t.bay b).desc.peakDraw = (s.bay b).desc.peakDraw) : t.fits b = s.fits b := by
  simp only [State.fits, ha, hd]

/-! ## Grants -/

/-- The granted bay: RAMPING, or, holding the stop order standing, marked and STOPPING (R13, R139). -/
def Bay.granted (x : Bay) (now : Clock) : Bay :=
  if x.stopHeld then { x.enterRamping now with stopMark := true }.enterStopping now else x.enterRamping now

/-- The arbiter after a grant to a bay: with the stop order standing the charge is released again. -/
def Arbiter.afterGrant (a : Arbiter) (b : BayId) (x : Bay) (now : Clock) : Arbiter :=
  let g := a.granted b x.desc.peakDraw x.priority now
  if x.stopHeld then { g with charges := putBay g.charges b 0 } else g

/-- A grant changes the granted bay and the arbiter, nothing else. -/
theorem grant_eq (s : State) (b : BayId) :
    s.grant b =
      (s.setBay b ((s.bay b).granted s.clock)).setArbiter (s.arbiter.afterGrant b (s.bay b) s.clock) := by
  simp only [State.grant, Bay.granted, Arbiter.afterGrant]
  split <;> simp [State.setBay, State.setArbiter]

@[simp] theorem afterGrant_queue (a : Arbiter) (b : BayId) (x : Bay) (now : Clock) :
    (a.afterGrant b x now).queue = a.queue.filter (· ≠ b) := by
  simp only [Arbiter.afterGrant, Arbiter.granted]; split <;> rfl

@[simp] theorem afterGrant_mode (a : Arbiter) (b : BayId) (x : Bay) (now : Clock) :
    (a.afterGrant b x now).mode = a.mode := by
  simp only [Arbiter.afterGrant, Arbiter.granted]; split <;> rfl

@[simp] theorem afterGrant_spacing (a : Arbiter) (b : BayId) (x : Bay) (now : Clock) :
    (a.afterGrant b x now).spacing = a.spacing := by
  simp only [Arbiter.afterGrant, Arbiter.granted]; split <;> rfl

@[simp] theorem afterGrant_mains (a : Arbiter) (b : BayId) (x : Bay) (now : Clock) :
    (a.afterGrant b x now).mainsBudget = a.mainsBudget := by
  simp only [Arbiter.afterGrant, Arbiter.granted]; split <;> rfl

@[simp] theorem afterGrant_battery (a : Arbiter) (b : BayId) (x : Bay) (now : Clock) :
    (a.afterGrant b x now).batteryBudget = a.batteryBudget := by
  simp only [Arbiter.afterGrant, Arbiter.granted]; split <;> rfl

@[simp] theorem afterGrant_source (a : Arbiter) (b : BayId) (x : Bay) (now : Clock) :
    (a.afterGrant b x now).source = a.source := by
  simp only [Arbiter.afterGrant, Arbiter.granted]; split <;> rfl

@[simp] theorem afterGrant_budget (a : Arbiter) (b : BayId) (x : Bay) (now : Clock) :
    (a.afterGrant b x now).budget = a.budget := by simp [Arbiter.budget]

@[simp] theorem afterGrant_gateOpen (a : Arbiter) (b : BayId) (x : Bay) (now : Clock) :
    (a.afterGrant b x now).gateOpen = a.gateOpen := by
  simp only [Arbiter.afterGrant, Arbiter.granted]; split <;> rfl

@[simp] theorem afterGrant_spacingTimer (a : Arbiter) (b : BayId) (x : Bay) (now : Clock) :
    (a.afterGrant b x now).spacingTimer = if a.spacing = 0 then a.spacingTimer else .after now (a.spacing * 10) := by
  simp only [Arbiter.afterGrant, Arbiter.granted]; split <;> rfl

@[simp] theorem afterGrant_charges (a : Arbiter) (b : BayId) (x : Bay) (now : Clock) :
    (a.afterGrant b x now).charges = putBay a.charges b (if x.stopHeld then 0 else x.desc.peakDraw) := by
  simp only [Arbiter.afterGrant, Arbiter.granted]; split <;> simp

@[simp] theorem grant_queue (s : State) (b : BayId) : (s.grant b).arbiter.queue = s.arbiter.queue.filter (· ≠ b) := by
  simp [grant_eq]

/-- A grant shortens the queue by the granted bay's entries. -/
theorem grant_queue_lt {s : State} {b : BayId} (h : b ∈ s.arbiter.queue) :
    (s.grant b).arbiter.queue.length < s.arbiter.queue.length := by
  rw [grant_queue]
  exact List.length_filter_lt_length_iff_exists.mpr ⟨b, h, by simp⟩

/-! ## Evaluations -/

theorem mayGrant_iff {a : Arbiter} : a.mayGrant = true ↔ a.gateOpen = true ∧ a.spacingTimer = .idle := by
  simp [Arbiter.mayGrant]

theorem evaluateWith_induct {P : State → Prop}
    (step : ∀ s b, P s → s.arbiter.mayGrant = true → s.candidate = some b → s.fits b = true → P (s.grant b)) :
    ∀ (fuel : Nat) (s : State), P s → P (State.evaluateWith fuel s)
  | 0, _, hs => hs
  | fuel + 1, s, hs => by
    rw [State.evaluateWith]
    split
    · split
      · exact hs
      · split
        · exact evaluateWith_induct step fuel _ (step s _ hs ‹_› ‹_› ‹_›)
        · exact hs
    · exact hs

/-- What every grant that an evaluation may make keeps, an evaluation keeps. -/
theorem evaluate_induct {P : State → Prop}
    (step : ∀ s b, P s → s.arbiter.mayGrant = true → s.candidate = some b → s.fits b = true → P (s.grant b))
    {s : State} (hs : P s) : P s.evaluate := evaluateWith_induct step _ s hs

/-- More fuel than queue entries changes nothing. -/
theorem evaluateWith_fuel :
    ∀ (fuel : Nat) (s : State), s.arbiter.queue.length ≤ fuel → State.evaluateWith fuel s = s.evaluate
  | 0, s, h => by
    have : s.arbiter.queue.length = 0 := by omega
    simp [State.evaluate, this, State.evaluateWith]
  | fuel + 1, s, h => by
    unfold State.evaluate
    rcases hq : s.arbiter.queue.length with _ | n
    · have hnone : s.candidate = none := by
        rcases hc : s.candidate with _ | b
        · rfl
        · have := (candidate_mem hc).1
          rw [List.length_eq_zero_iff.mp hq] at this
          cases this
      simp [State.evaluateWith, hnone]
    · simp only [State.evaluateWith]
      split
      · split
        · rfl
        · split
          · have hlt := grant_queue_lt (candidate_mem ‹_›).1
            rw [evaluateWith_fuel fuel _ (by omega), evaluateWith_fuel n _ (by omega)]
          · rfl
      · rfl
termination_by fuel => fuel
decreasing_by all_goals omega

/-- One turn of an evaluation. -/
theorem evaluate_step (s : State) :
    s.evaluate =
      if s.arbiter.mayGrant then
        match s.candidate with
        | none => s
        | some b => if s.fits b then (s.grant b).evaluate else s
      else s := by
  rw [← evaluateWith_fuel (s.arbiter.queue.length + 1) s (by omega), State.evaluateWith]
  split
  · rcases hc : s.candidate with _ | b
    · rfl
    · have hlt := grant_queue_lt (candidate_mem hc).1
      simp only [evaluateWith_fuel s.arbiter.queue.length (s.grant b) (by omega)]
  · rfl

theorem evaluate_closed {s : State} (h : s.arbiter.mayGrant = false) : s.evaluate = s := by
  rw [evaluate_step]; simp [h]

theorem evaluate_empty {s : State} (h : s.candidate = none) : s.evaluate = s := by
  rw [evaluate_step]; simp [h]

theorem evaluate_blocked {s : State} {b : BayId} (h : s.candidate = some b) (hf : s.fits b = false) :
    s.evaluate = s := by
  rw [evaluate_step]; simp [h, hf]

theorem evaluate_grant {s : State} {b : BayId} (hm : s.arbiter.mayGrant = true) (h : s.candidate = some b)
    (hf : s.fits b = true) : s.evaluate = (s.grant b).evaluate := by
  rw [evaluate_step]; simp [hm, h, hf]

/-- An evaluation changes bays and arbiter alone. -/
theorem evaluate_frame (s : State) : ∃ bays a, s.evaluate = { s with bays := bays, arbiter := a } := by
  refine evaluate_induct (P := fun t => ∃ bays a, t = { s with bays := bays, arbiter := a }) ?_ ⟨_, _, rfl⟩
  rintro _ b ⟨bays, a, rfl⟩ - - -
  rw [grant_eq]; exact ⟨_, _, rfl⟩

@[simp] theorem evaluate_clock (s : State) : s.evaluate.clock = s.clock := by
  obtain ⟨_, _, h⟩ := evaluate_frame s; rw [h]
@[simp] theorem evaluate_phase (s : State) : s.evaluate.phase = s.phase := by
  obtain ⟨_, _, h⟩ := evaluate_frame s; rw [h]
@[simp] theorem evaluate_cause (s : State) : s.evaluate.cause = s.cause := by
  obtain ⟨_, _, h⟩ := evaluate_frame s; rw [h]
@[simp] theorem evaluate_motion (s : State) : s.evaluate.motion = s.motion := by
  obtain ⟨_, _, h⟩ := evaluate_frame s; rw [h]
@[simp] theorem evaluate_policy (s : State) : s.evaluate.policy = s.policy := by
  obtain ⟨_, _, h⟩ := evaluate_frame s; rw [h]
@[simp] theorem evaluate_supply (s : State) : s.evaluate.supply = s.supply := by
  obtain ⟨_, _, h⟩ := evaluate_frame s; rw [h]
@[simp] theorem evaluate_link (s : State) : s.evaluate.link = s.link := by
  obtain ⟨_, _, h⟩ := evaluate_frame s; rw [h]
@[simp] theorem evaluate_notices (s : State) : s.evaluate.notices = s.notices := by
  obtain ⟨_, _, h⟩ := evaluate_frame s; rw [h]
@[simp] theorem evaluate_faults (s : State) : s.evaluate.faults = s.faults := by
  obtain ⟨_, _, h⟩ := evaluate_frame s; rw [h]
@[simp] theorem evaluate_inputs (s : State) : s.evaluate.inputs = s.inputs := by
  obtain ⟨_, _, h⟩ := evaluate_frame s; rw [h]
@[simp] theorem evaluate_drawn (s : State) : s.evaluate.drawn = s.drawn := by
  obtain ⟨_, _, h⟩ := evaluate_frame s; rw [h]
@[simp] theorem evaluate_inFlight (s : State) : s.evaluate.inFlight = s.inFlight := by
  obtain ⟨_, _, h⟩ := evaluate_frame s; rw [h]
@[simp] theorem evaluate_pending (s : State) : s.evaluate.pending = s.pending := by
  obtain ⟨_, _, h⟩ := evaluate_frame s; rw [h]

/-- An evaluation leaves each bay as it was, or grants it, once: then it was queued and its entry is gone. -/
theorem evaluate_bay (s : State) (i : BayId) :
    s.evaluate.bay i = s.bay i ∨
      (i ∈ s.arbiter.queue ∧ i ∉ s.evaluate.arbiter.queue ∧ s.evaluate.bay i = (s.bay i).granted s.clock) := by
  have key : (s.evaluate.clock = s.clock ∧ ∀ j ∈ s.evaluate.arbiter.queue, j ∈ s.arbiter.queue) ∧
      ((i ∈ s.evaluate.arbiter.queue → s.evaluate.bay i = s.bay i) ∧
        (s.evaluate.bay i = s.bay i ∨
          (i ∈ s.arbiter.queue ∧ i ∉ s.evaluate.arbiter.queue ∧ s.evaluate.bay i = (s.bay i).granted s.clock))) := by
    refine evaluate_induct
      (P := fun t => (t.clock = s.clock ∧ ∀ j ∈ t.arbiter.queue, j ∈ s.arbiter.queue) ∧
        ((i ∈ t.arbiter.queue → t.bay i = s.bay i) ∧
        (t.bay i = s.bay i ∨ (i ∈ s.arbiter.queue ∧ i ∉ t.arbiter.queue ∧ t.bay i = (s.bay i).granted s.clock)))) ?_
      ⟨⟨rfl, fun _ h => h⟩, fun _ => rfl, .inl rfl⟩
    rintro t b ⟨⟨hc, hq⟩, hin, hor⟩ - hcand -
    have hb := (candidate_mem hcand).1
    refine ⟨⟨by simp [grant_eq, hc], fun j hj => hq j (by simp at hj; exact hj.1)⟩, ?_, ?_⟩
    · intro hi
      have hi : i ∈ t.arbiter.queue ∧ i ≠ b := by simpa using hi
      rw [grant_eq, setArbiter_bay, setBay_bay_ne _ _ hi.2]
      exact hin hi.1
    · by_cases hib : i = b
      · subst hib
        refine .inr ⟨hq _ hb, by simp, ?_⟩
        rw [grant_eq, setArbiter_bay, setBay_bay_same, hin hb, hc]
      · rcases hor with h | ⟨h1, h2, h3⟩
        · exact .inl (by rw [grant_eq, setArbiter_bay, setBay_bay_ne _ _ hib]; exact h)
        · exact .inr ⟨h1, by simp [h2], by rw [grant_eq, setArbiter_bay, setBay_bay_ne _ _ hib]; exact h3⟩
  exact key.2.2

/-- An evaluation only takes entries out of the queue, keeping the order of the rest. -/
theorem evaluate_queue_sublist (s : State) : s.evaluate.arbiter.queue.Sublist s.arbiter.queue := by
  refine evaluate_induct (P := fun t => t.arbiter.queue.Sublist s.arbiter.queue) ?_ (List.Sublist.refl _)
  intro t b h _ _ _
  rw [grant_queue]
  exact List.filter_sublist.trans h

/-- A bay that is not queued is not touched by an evaluation. -/
theorem evaluate_bay_of_not_mem {s : State} {i : BayId} (h : i ∉ s.arbiter.queue) : s.evaluate.bay i = s.bay i := by
  rcases evaluate_bay s i with h' | ⟨h1, -⟩
  · exact h'
  · exact absurd h1 h

/-- The settings of the arbiter, its gate and its source come through an evaluation. -/
theorem evaluate_settings (s : State) :
    s.evaluate.arbiter.mode = s.arbiter.mode ∧ s.evaluate.arbiter.spacing = s.arbiter.spacing ∧
    s.evaluate.arbiter.mainsBudget = s.arbiter.mainsBudget ∧
    s.evaluate.arbiter.batteryBudget = s.arbiter.batteryBudget ∧
    s.evaluate.arbiter.source = s.arbiter.source ∧ s.evaluate.arbiter.gateOpen = s.arbiter.gateOpen := by
  refine evaluate_induct
    (P := fun t => t.arbiter.mode = s.arbiter.mode ∧ t.arbiter.spacing = s.arbiter.spacing ∧
      t.arbiter.mainsBudget = s.arbiter.mainsBudget ∧ t.arbiter.batteryBudget = s.arbiter.batteryBudget ∧
      t.arbiter.source = s.arbiter.source ∧ t.arbiter.gateOpen = s.arbiter.gateOpen) ?_ (by simp)
  intro t b h _ _ _
  simpa [grant_eq] using h

/-- After an evaluation no grant is left to make (R72, R79). -/
theorem evaluate_done (s : State) (b : BayId) (hm : s.evaluate.arbiter.mayGrant = true)
    (hc : s.evaluate.candidate = some b) : s.evaluate.fits b = false := by
  suffices h : ∀ (n : Nat) (t : State), t.arbiter.queue.length ≤ n →
      t.evaluate.arbiter.mayGrant = true → t.evaluate.candidate = some b → t.evaluate.fits b = false from
    h _ s (Nat.le_refl _) hm hc
  intro n
  induction n with
  | zero =>
    intro t hn hm hc
    have hs := evaluate_queue_sublist t
    rw [List.length_eq_zero_iff.mp (Nat.le_zero.mp hn)] at hs
    have := (candidate_mem hc).1
    rw [List.sublist_nil.mp hs] at this
    cases this
  | succ n ih =>
    intro t hn
    by_cases hm : t.arbiter.mayGrant = true
    · rcases hc : t.candidate with _ | c
      · rw [evaluate_empty hc, hc]; intro _ h; cases h
      · by_cases hf : t.fits c = true
        · rw [evaluate_grant hm hc hf]
          have hlt := grant_queue_lt (candidate_mem hc).1
          exact ih _ (by omega)
        · rw [evaluate_blocked hc (by simpa using hf), hc]
          intro _ h; cases h; simpa using hf
    · rw [evaluate_closed (by simpa using hm)]
      intro h; exact absurd h hm

/-! ## Draw reports -/

theorem reportDraw_same {s : State} {b : BayId} {charge : Nat} (h : charge = atBay s.arbiter.charges b) :
    s.reportDraw b charge = s := by simp [State.reportDraw, h]

theorem reportDraw_falls {s : State} {b : BayId} {charge : Nat} (h : charge < atBay s.arbiter.charges b) :
    s.reportDraw b charge = (s.setArbiter { s.arbiter with charges := putBay s.arbiter.charges b charge }).evaluate := by
  simp [State.reportDraw, h, Nat.ne_of_lt h]

theorem reportDraw_rises {s : State} {b : BayId} {charge : Nat} (h : atBay s.arbiter.charges b < charge) :
    s.reportDraw b charge = s.setArbiter { s.arbiter with charges := putBay s.arbiter.charges b charge } := by
  simp [State.reportDraw, (Nat.ne_of_lt h).symm, Nat.not_lt.mpr (Nat.le_of_lt h)]

/-- A draw report stores the charge, and then is an evaluation or nothing. -/
theorem reportDraw_cases (s : State) (b : BayId) (charge : Nat) :
    let t := s.setArbiter { s.arbiter with charges := putBay s.arbiter.charges b charge }
    s.reportDraw b charge = t ∨ s.reportDraw b charge = t.evaluate := by
  intro t
  rcases Nat.lt_trichotomy charge (atBay s.arbiter.charges b) with h | h | h
  · exact .inr (reportDraw_falls h)
  · left; rw [reportDraw_same h]; subst h; simp [t, State.setArbiter]
  · exact .inl (reportDraw_rises h)

/-- A draw report changes bays and arbiter alone. -/
theorem reportDraw_frame (s : State) (b : BayId) (charge : Nat) :
    ∃ bays a, s.reportDraw b charge = { s with bays := bays, arbiter := a } := by
  rcases reportDraw_cases s b charge with h | h <;> rw [h]
  · exact ⟨_, _, rfl⟩
  · obtain ⟨_, _, h⟩ := evaluate_frame (s.setArbiter { s.arbiter with charges := putBay s.arbiter.charges b charge })
    rw [h]; exact ⟨_, _, rfl⟩

@[simp] theorem reportDraw_clock (s : State) (b : BayId) (n : Nat) : (s.reportDraw b n).clock = s.clock := by
  obtain ⟨_, _, h⟩ := reportDraw_frame s b n; rw [h]
@[simp] theorem reportDraw_phase (s : State) (b : BayId) (n : Nat) : (s.reportDraw b n).phase = s.phase := by
  obtain ⟨_, _, h⟩ := reportDraw_frame s b n; rw [h]
@[simp] theorem reportDraw_cause (s : State) (b : BayId) (n : Nat) : (s.reportDraw b n).cause = s.cause := by
  obtain ⟨_, _, h⟩ := reportDraw_frame s b n; rw [h]
@[simp] theorem reportDraw_motion (s : State) (b : BayId) (n : Nat) : (s.reportDraw b n).motion = s.motion := by
  obtain ⟨_, _, h⟩ := reportDraw_frame s b n; rw [h]
@[simp] theorem reportDraw_policy (s : State) (b : BayId) (n : Nat) : (s.reportDraw b n).policy = s.policy := by
  obtain ⟨_, _, h⟩ := reportDraw_frame s b n; rw [h]
@[simp] theorem reportDraw_supply (s : State) (b : BayId) (n : Nat) : (s.reportDraw b n).supply = s.supply := by
  obtain ⟨_, _, h⟩ := reportDraw_frame s b n; rw [h]
@[simp] theorem reportDraw_link (s : State) (b : BayId) (n : Nat) : (s.reportDraw b n).link = s.link := by
  obtain ⟨_, _, h⟩ := reportDraw_frame s b n; rw [h]
@[simp] theorem reportDraw_notices (s : State) (b : BayId) (n : Nat) : (s.reportDraw b n).notices = s.notices := by
  obtain ⟨_, _, h⟩ := reportDraw_frame s b n; rw [h]
@[simp] theorem reportDraw_faults (s : State) (b : BayId) (n : Nat) : (s.reportDraw b n).faults = s.faults := by
  obtain ⟨_, _, h⟩ := reportDraw_frame s b n; rw [h]
@[simp] theorem reportDraw_inputs (s : State) (b : BayId) (n : Nat) : (s.reportDraw b n).inputs = s.inputs := by
  obtain ⟨_, _, h⟩ := reportDraw_frame s b n; rw [h]
@[simp] theorem reportDraw_drawn (s : State) (b : BayId) (n : Nat) : (s.reportDraw b n).drawn = s.drawn := by
  obtain ⟨_, _, h⟩ := reportDraw_frame s b n; rw [h]
@[simp] theorem reportDraw_inFlight (s : State) (b : BayId) (n : Nat) : (s.reportDraw b n).inFlight = s.inFlight := by
  obtain ⟨_, _, h⟩ := reportDraw_frame s b n; rw [h]
@[simp] theorem reportDraw_pending (s : State) (b : BayId) (n : Nat) : (s.reportDraw b n).pending = s.pending := by
  obtain ⟨_, _, h⟩ := reportDraw_frame s b n; rw [h]

/-- A draw report leaves each bay as it was, or grants it. -/
theorem reportDraw_bay (s : State) (b i : BayId) (charge : Nat) :
    (s.reportDraw b charge).bay i = s.bay i ∨
      (i ∈ s.arbiter.queue ∧ i ∉ (s.reportDraw b charge).arbiter.queue ∧
        (s.reportDraw b charge).bay i = (s.bay i).granted s.clock) := by
  rcases reportDraw_cases s b charge with h | h <;> rw [h]
  · exact .inl rfl
  · exact evaluate_bay (s.setArbiter { s.arbiter with charges := putBay s.arbiter.charges b charge }) i

theorem reportDraw_bay_of_not_mem {s : State} {b i : BayId} {charge : Nat} (h : i ∉ s.arbiter.queue) :
    (s.reportDraw b charge).bay i = s.bay i := by
  rcases reportDraw_bay s b i charge with h' | ⟨h1, -⟩
  · exact h'
  · exact absurd h1 h

end Sys2Proof.Machine
end

