-- ==== Sys2Proof/Laws/Bays.lean ====
section
/-! SUPPORT. The transitions of a bay: each as one update of that bay, its draw report and the notices it posts, and
what none of them touches. -/

namespace Sys2Proof.Machine

/-! ## The transitions as updates -/

theorem postBay_eq (s : State) (b : BayId) :
    s.postBay b = s.handOn [.noticePost (.bay b) s.clock
      { b0 := stateCode (s.bay b).state, b1 := reasonCode? (s.bay b).reason, b2 := 0, b3 := 0 }] := rfl

theorem toStopping_eq (s : State) (b : BayId) :
    s.toStopping b = (s.setBay b ((s.bay b).enterStopping s.clock)).reportDraw b 0 := rfl

theorem toUnloading_eq (s : State) (b : BayId) :
    s.toUnloading b = s.setBay b ((s.bay b).enterUnloading s.clock) := rfl

/-- STOPPED is posted with reason code 0. -/
theorem toStopped_eq (s : State) (b : BayId) :
    s.toStopped b = (s.setBay b ((s.bay b).enterStopped s.clock)).handOn
      [.noticePost (.bay b) s.clock { b0 := 1, b1 := 0, b2 := 0, b3 := 0 }] := by
  simp only [State.toStopped, State.mapBay, postBay_eq, setBay_bay_same, setBay_clock]
  rfl

/-- A bay that is not queued goes to FAULTED by one update of its record, the release of its draw, capture and
notice. -/
theorem toFaulted_eq {s : State} {b : BayId} (h : b ∉ s.arbiter.queue) (reason : BayReason) (found : BayState) :
    s.toFaulted b reason found =
      ((s.setBay b ((s.bay b).enterFaulted reason s.clock)).reportDraw b 0).handOn
        [.faultCapture (.bay b reason found s.clock (s.bay b).lastTach (s.bay b).prkLevel),
         .noticePost (.bay b) s.clock { b0 := 10, b1 := reason.code, b2 := 0, b3 := 0 }] := by
  have hb : ((s.setBay b ((s.bay b).enterFaulted reason s.clock)).reportDraw b 0).bay b =
      (s.bay b).enterFaulted reason s.clock := by
    rw [reportDraw_bay_of_not_mem (by simpa using h)]; simp
  simp only [State.toFaulted, State.mapBay, postBay_eq, handOn_handOn, handOn_bay, hb, reportDraw_clock,
    setBay_clock, handOn_clock]
  rfl

theorem readyToLoad_iff {x : Bay} :
    x.readyToLoad = true ↔ x.state = .spinning ∧ x.intent = .fly ∧ x.loadPermission = true ∧ x.prkLevel = true := by
  simp [Bay.readyToLoad, and_assoc]

theorem loadTest_eq (s : State) (b : BayId) :
    s.loadTest b = if (s.bay b).readyToLoad then s.setBay b ((s.bay b).enterLoading s.clock) else s := rfl

theorem joinQueue_eq (s : State) (b : BayId) :
    s.joinQueue b = ((s.setBay b ((s.bay b).enterQueued s.clock)).setArbiter
      { s.arbiter with queue := s.arbiter.queue ++ [b] }).evaluate := rfl

/-! ## What bay work leaves alone -/

/-- `t` differs from `s` in bays, arbiter and reports in flight at most. -/
def BayWork (s t : State) : Prop := ∃ bays a l, t = { s with bays := bays, arbiter := a, inFlight := l }

theorem BayWork.refl (s : State) : BayWork s s := ⟨_, _, _, rfl⟩

theorem BayWork.trans {s t u : State} (h : BayWork s t) (h' : BayWork t u) : BayWork s u := by
  obtain ⟨_, _, _, rfl⟩ := h
  obtain ⟨_, _, _, rfl⟩ := h'
  exact ⟨_, _, _, rfl⟩

theorem BayWork.taken (s : State) (c : Instr) : BayWork s (s.taken c) := ⟨_, _, _, rfl⟩
theorem BayWork.setBay (s : State) (b : BayId) (x : Bay) : BayWork s (s.setBay b x) := ⟨_, _, _, rfl⟩
theorem BayWork.mapBay (s : State) (b : BayId) (f : Bay → Bay) : BayWork s (s.mapBay b f) := ⟨_, _, _, rfl⟩
theorem BayWork.setArbiter (s : State) (a : Arbiter) : BayWork s (s.setArbiter a) := ⟨_, _, _, rfl⟩
theorem BayWork.handOn (s : State) (l : List Instr) : BayWork s (s.handOn l) := ⟨_, _, _, rfl⟩
theorem BayWork.post (s : State) (k : Key) (p : NoticePayload) : BayWork s (s.post k p) := ⟨_, _, _, rfl⟩

theorem BayWork.evaluate (s : State) : BayWork s s.evaluate := by
  obtain ⟨_, _, h⟩ := evaluate_frame s; rw [h]; exact ⟨_, _, _, rfl⟩

theorem BayWork.reportDraw (s : State) (b : BayId) (n : Nat) : BayWork s (s.reportDraw b n) := by
  obtain ⟨_, _, h⟩ := reportDraw_frame s b n; rw [h]; exact ⟨_, _, _, rfl⟩

theorem BayWork.postBay (s : State) (b : BayId) : BayWork s (s.postBay b) := ⟨_, _, _, rfl⟩

theorem BayWork.toStopping (s : State) (b : BayId) : BayWork s (s.toStopping b) :=
  (BayWork.mapBay ..).trans (BayWork.reportDraw ..)

theorem BayWork.toStopped (s : State) (b : BayId) : BayWork s (s.toStopped b) :=
  (BayWork.mapBay ..).trans (BayWork.postBay ..)

theorem BayWork.toUnloading (s : State) (b : BayId) : BayWork s (s.toUnloading b) := BayWork.mapBay ..

theorem BayWork.toFaulted (s : State) (b : BayId) (r : BayReason) (f : BayState) : BayWork s (s.toFaulted b r f) :=
  (((BayWork.mapBay ..).trans (BayWork.reportDraw ..)).trans (BayWork.handOn ..)).trans (BayWork.postBay ..)

theorem BayWork.loadTest (s : State) (b : BayId) : BayWork s (s.loadTest b) := by
  rw [loadTest_eq]; split
  · exact BayWork.setBay ..
  · exact BayWork.refl s

theorem BayWork.afterSpinning (s : State) (b : BayId) : BayWork s (s.afterSpinning b) := by
  unfold State.afterSpinning; split
  · exact BayWork.loadTest ..
  · exact BayWork.toUnloading ..

theorem BayWork.toSpinningProven (s : State) (b : BayId) : BayWork s (s.toSpinningProven b) :=
  (((BayWork.mapBay ..).trans (BayWork.postBay ..)).trans (BayWork.reportDraw ..)).trans (BayWork.afterSpinning ..)

theorem BayWork.toSpinningUnloaded (s : State) (b : BayId) : BayWork s (s.toSpinningUnloaded b) :=
  ((BayWork.mapBay ..).trans (BayWork.postBay ..)).trans (BayWork.afterSpinning ..)

theorem BayWork.joinQueue (s : State) (b : BayId) : BayWork s (s.joinQueue b) :=
  ((BayWork.mapBay ..).trans (BayWork.setArbiter ..)).trans (BayWork.evaluate ..)

theorem BayWork.unqueue (s : State) (b : BayId) : BayWork s (s.unqueue b) := BayWork.setArbiter ..

theorem BayWork.queueIfWanted (s : State) (b : BayId) : BayWork s (s.queueIfWanted b) := by
  simp only [State.queueIfWanted]; split
  · exact BayWork.joinQueue ..
  · exact BayWork.refl s

theorem BayWork.speedLost (s : State) (b : BayId) : BayWork s (s.speedLost b) := by
  simp only [State.speedLost]
  split
  · exact ((BayWork.mapBay ..).trans (BayWork.mapBay ..)).trans (BayWork.toStopping ..)
  · exact ((BayWork.mapBay ..).trans (BayWork.mapBay ..)).trans (BayWork.toUnloading ..)
  · exact ((BayWork.mapBay ..).trans (BayWork.mapBay ..)).trans (BayWork.toUnloading ..)
  · exact (BayWork.mapBay ..).trans (BayWork.mapBay ..)
  all_goals exact BayWork.mapBay ..

theorem BayWork.clock {s t : State} (h : BayWork s t) : t.clock = s.clock := by obtain ⟨_, _, _, rfl⟩ := h; rfl
theorem BayWork.phase {s t : State} (h : BayWork s t) : t.phase = s.phase := by obtain ⟨_, _, _, rfl⟩ := h; rfl
theorem BayWork.cause {s t : State} (h : BayWork s t) : t.cause = s.cause := by obtain ⟨_, _, _, rfl⟩ := h; rfl
theorem BayWork.motion {s t : State} (h : BayWork s t) : t.motion = s.motion := by obtain ⟨_, _, _, rfl⟩ := h; rfl
theorem BayWork.policy {s t : State} (h : BayWork s t) : t.policy = s.policy := by obtain ⟨_, _, _, rfl⟩ := h; rfl
theorem BayWork.supply {s t : State} (h : BayWork s t) : t.supply = s.supply := by obtain ⟨_, _, _, rfl⟩ := h; rfl
theorem BayWork.link {s t : State} (h : BayWork s t) : t.link = s.link := by obtain ⟨_, _, _, rfl⟩ := h; rfl
theorem BayWork.notices {s t : State} (h : BayWork s t) : t.notices = s.notices := by obtain ⟨_, _, _, rfl⟩ := h; rfl
theorem BayWork.faults {s t : State} (h : BayWork s t) : t.faults = s.faults := by obtain ⟨_, _, _, rfl⟩ := h; rfl
theorem BayWork.inputs {s t : State} (h : BayWork s t) : t.inputs = s.inputs := by obtain ⟨_, _, _, rfl⟩ := h; rfl
theorem BayWork.drawn {s t : State} (h : BayWork s t) : t.drawn = s.drawn := by obtain ⟨_, _, _, rfl⟩ := h; rfl
theorem BayWork.pending {s t : State} (h : BayWork s t) : t.pending = s.pending := by obtain ⟨_, _, _, rfl⟩ := h; rfl

end Sys2Proof.Machine
end

