-- ==== Sys2Proof/Laws/Clock.lean ====
section
/-! SUPPORT. One millisecond: what is handed on and when, and what the samples count. -/

namespace Sys2Proof.Machine

theorem mem_whenDue {due : Bool} {e x : Instr} : x ∈ whenDue due e ↔ due = true ∧ x = e := by
  unfold whenDue; cases due <;> simp

/-- A debounced value changes at the last of `need` differing samples, and its count starts anew. -/
theorem debounce_changes {need count : Nat} {differs : Bool} :
    (debounce need count differs).2 = true ↔ differs = true ∧ need ≤ count + 1 := by
  unfold debounce; cases differs <;> simp; split <;> simp_all

theorem debounce_count {need count : Nat} {differs : Bool} :
    (debounce need count differs).1 = if differs = true ∧ count + 1 < need then count + 1 else 0 := by
  unfold debounce; cases differs <;> simp
  split <;> split <;> omega

/-- A count stays below its limit. -/
theorem debounce_lt {need count : Nat} {differs : Bool} (h : 0 < need) : (debounce need count differs).1 < need := by
  rw [debounce_count]; split <;> omega

/-- What one millisecond of operation hands on, said whole. -/
theorem mem_tickEvents {s : State} {now : Clock} {e : Instr} :
    e ∈ s.tickEvents now ↔
      (∃ b, e ∈ (s.bay b).pinEvents b (atBay s.inputs.seat b) (atBay s.inputs.prk b) now) ∨
      e ∈ inputEvents s.policy.handleCount s.policy.handleState s.inputs.handle .handle ∨
      e ∈ inputEvents s.policy.lidCount s.policy.lidState s.inputs.lid .lid ∨
      (∃ b, e ∈ (s.bay b).timerEvents b now) ∨ e ∈ s.timerEvents now ∨
      e = .supplySample s.inputs.rail s.inputs.srcHigh := by
  simp [State.tickEvents, mem_bayIds]

/-- The pin events of one bay, each with its condition. -/
theorem mem_pinEvents {x : Bay} {b : BayId} {seat prk : Bool} {now : Clock} {e : Instr} :
    e ∈ x.pinEvents b seat prk now ↔
      (x.duty ≠ x.spwr ∧ e = .pwmPeriodBoundary b) ∨
      ((seat ≠ x.seated ∧ 2 ≤ x.seatCount) ∧ e = if seat then .reseat b else .unseat b) ∨
      ((prk ≠ x.prkLevel ∧ prk = x.prkSample ∧ 1 ≤ x.prkAgree) ∧ e = if prk then .prkAssertion b else .prkRelease b) ∨
      ((x.guard ≠ .passed ∧ x.guard.over now = true) ∧ e = .unloadGuardExpiry b) ∨
      (x.state = .unloading ∧ e = .unloadCompletion b) := by
  have park : 2 ≤ (if prk = x.prkSample then x.prkAgree else 0) + 1 ↔ prk = x.prkSample ∧ 1 ≤ x.prkAgree := by
    split <;> simp_all
  simp [Bay.pinEvents, mem_whenDue, Bay.seatSample, Bay.parkSample, debounce_changes, park]

/-- In UNLOADING the completion test comes after every other pin event of its bay (R57). -/
theorem pinEvents_unloading {x : Bay} (h : x.state = .unloading) (b : BayId) (seat prk : Bool) (now : Clock) :
    ∃ front, x.pinEvents b seat prk now = front ++ [.unloadCompletion b] :=
  ⟨_, by unfold Bay.pinEvents; rw [h]; rfl⟩

/-- The events of a case input, with their condition. -/
theorem mem_inputEvents {count : Nat} {asserted sample : Bool} {i : CaseInput} {e : Instr} :
    e ∈ inputEvents count asserted sample i ↔
      (sample ≠ asserted ∧ 2 ≤ count) ∧ e = if sample then .caseInputAssertion i else .caseInputRelease i := by
  simp [inputEvents, mem_whenDue, debounce_changes]

/-- A timer is due when it runs and its expiry has been reached. -/
theorem due_iff {t : Timer} {now : Clock} : t.due now = true ↔ ∃ e, t = .running e ∧ reached now e = true := by
  cases t <;> simp [Timer.due]

/-- A millisecond of operation: the samples are counted, and what is due is handed on. -/
theorem tick_operating {s : State} (h : s.phase = .operating) :
    s.tick = s.sampled.handOn (s.tickEvents (s.clock + 1)) := by simp only [State.tick, h]

@[simp] theorem sampled_bay (s : State) (b : BayId) :
    s.sampled.bay b = (s.bay b).sampled (atBay s.inputs.seat b) (atBay s.inputs.prk b) :=
  atBay_tableOf (fun b => (s.bay b).sampled (atBay s.inputs.seat b) (atBay s.inputs.prk b)) b

@[simp] theorem sampled_link (s : State) : s.sampled.link = s.link.sampled s.inputs.rxdHigh := rfl

/-- A millisecond leaves the Link Port as it is, but for a wait that a high RXD ends. -/
theorem link_sampled_idle {l : Link} (h : l.awaitHigh = false) (rxdHigh : Bool) : l.sampled rxdHigh = l := by
  cases l; simp_all [Link.sampled]

end Sys2Proof.Machine
end

