-- ==== Sys2Proof/Laws/Policy.lean ====
section
/-! SUPPORT. The Park Policy: what a re-evaluation and the report of an accepted request change. -/

namespace Sys2Proof.Machine

/-! ## Permissions -/

theorem inputsOpen_iff {p : Policy} :
    p.inputsOpen = true ↔
      ¬ (p.handleMode = .level ∧ p.handleState = true) ∧ ¬ (p.lidMode = .level ∧ p.lidState = true) := by
  simp [Policy.inputsOpen, imp_iff_not_or]

theorem lapsedStop_iff {p : Policy} : p.lapsedStop = true ↔ p.supervision = .lapsed ∧ p.action = .stop := by
  simp [Policy.lapsedStop]

theorem classWithin_iff {limit : MotionLimit} {c : MotionClass} :
    classWithin limit c = true ↔ c = .still ∨ (c = .rolling ∧ limit = .rolling) := by
  cases c <;> simp [classWithin]

@[simp] theorem computed_loadPermission (p : Policy) (b : BayId) : atBay p.computed.loadPermission b = p.load b :=
  atBay_tableOf ..

@[simp] theorem computed_flightPermission (p : Policy) (b : BayId) :
    atBay p.computed.flightPermission b = p.flight b := atBay_tableOf ..

/-- The outputs are computed from inputs that computing them leaves as they are. -/
@[simp] theorem computed_load (p : Policy) : p.computed.load = p.load := rfl
@[simp] theorem computed_flight (p : Policy) : p.computed.flight = p.flight := rfl
@[simp] theorem computed_gate (p : Policy) : p.computed.gate = p.gate := rfl
@[simp] theorem computed_stop (p : Policy) : p.computed.stop = p.stop := rfl

/-! ## Re-evaluation -/

/-- A re-evaluation changes the policy's outputs and the reports in flight, nothing else. -/
theorem reevaluate_eq (s : State) :
    s.reevaluate =
      { s with policy := s.policy.computed, inFlight := s.inFlight ++ policyHandoffs s.policy s.policy.computed } := rfl

theorem policyInput_same {s : State} {p : Policy} (h : p = s.policy) : s.policyInput p = s := by
  simp [State.policyInput, h]

theorem policyInput_new {s : State} {p : Policy} (h : p ≠ s.policy) : s.policyInput p = (s.setPolicy p).reevaluate := by
  simp [State.policyInput, h]

/-- `t` differs from `s` in the policy and the reports in flight at most, and has added to these. -/
def PolicyWork (s t : State) : Prop := ∃ p l, t = { s with policy := p, inFlight := s.inFlight ++ l }

theorem PolicyWork.refl (s : State) : PolicyWork s s := ⟨s.policy, [], by simp⟩

theorem PolicyWork.trans {s t u : State} (h : PolicyWork s t) (h' : PolicyWork t u) : PolicyWork s u := by
  obtain ⟨_, l, rfl⟩ := h
  obtain ⟨p, m, rfl⟩ := h'
  exact ⟨p, l ++ m, by simp⟩

theorem PolicyWork.setPolicy (s : State) (p : Policy) : PolicyWork s (s.setPolicy p) := ⟨p, [], by simp [State.setPolicy]⟩

theorem PolicyWork.handOn (s : State) (l : List Instr) : PolicyWork s (s.handOn l) := ⟨s.policy, l, rfl⟩

theorem PolicyWork.reevaluate (s : State) : PolicyWork s s.reevaluate := ⟨_, _, rfl⟩

theorem PolicyWork.policyInput (s : State) (p : Policy) : PolicyWork s (s.policyInput p) := by
  unfold State.policyInput; split
  · exact .refl s
  · exact (PolicyWork.setPolicy ..).trans (.reevaluate _)

theorem PolicyWork.policyTable (s : State) (b : BayId) (d : Descriptor) : PolicyWork s (s.policyTable b d) :=
  .policyInput ..

theorem PolicyWork.acceptedRequest (s : State) : PolicyWork s s.acceptedRequest := by
  unfold State.acceptedRequest; split
  · exact .refl s
  · exact .setPolicy ..
  · exact (PolicyWork.setPolicy ..).trans (.reevaluate _)

theorem PolicyWork.caseSetup (s : State) (r : RawCase) : PolicyWork s (s.caseSetup r) := by
  simp only [State.caseSetup]
  exact (((PolicyWork.handOn ..).trans (.handOn ..)).trans (.setPolicy ..)).trans (.reevaluate _)

theorem PolicyWork.restartSupervision (s : State) : PolicyWork s s.restartSupervision := by
  simp only [State.restartSupervision]
  split
  · exact .refl s
  · split
    · exact .setPolicy ..
    all_goals exact (PolicyWork.setPolicy ..).trans (.reevaluate _)

@[simp] theorem reevaluate_clock (s : State) : s.reevaluate.clock = s.clock := rfl
@[simp] theorem reevaluate_phase (s : State) : s.reevaluate.phase = s.phase := rfl
@[simp] theorem reevaluate_cause (s : State) : s.reevaluate.cause = s.cause := rfl
@[simp] theorem reevaluate_bays (s : State) : s.reevaluate.bays = s.bays := rfl
@[simp] theorem reevaluate_bay (s : State) (b : BayId) : s.reevaluate.bay b = s.bay b := rfl
@[simp] theorem reevaluate_arbiter (s : State) : s.reevaluate.arbiter = s.arbiter := rfl
@[simp] theorem reevaluate_motion (s : State) : s.reevaluate.motion = s.motion := rfl
@[simp] theorem reevaluate_policy (s : State) : s.reevaluate.policy = s.policy.computed := rfl
@[simp] theorem reevaluate_supply (s : State) : s.reevaluate.supply = s.supply := rfl
@[simp] theorem reevaluate_link (s : State) : s.reevaluate.link = s.link := rfl
@[simp] theorem reevaluate_notices (s : State) : s.reevaluate.notices = s.notices := rfl
@[simp] theorem reevaluate_faults (s : State) : s.reevaluate.faults = s.faults := rfl
@[simp] theorem reevaluate_inputs (s : State) : s.reevaluate.inputs = s.inputs := rfl
@[simp] theorem reevaluate_drawn (s : State) : s.reevaluate.drawn = s.drawn := rfl
@[simp] theorem reevaluate_pending (s : State) : s.reevaluate.pending = s.pending := rfl

/-! ## Accepted requests -/

@[simp] theorem accepted_clock (s : State) : s.acceptedRequest.clock = s.clock := by
  obtain ⟨_, _, h⟩ := PolicyWork.acceptedRequest s; rw [h]
@[simp] theorem accepted_phase (s : State) : s.acceptedRequest.phase = s.phase := by
  obtain ⟨_, _, h⟩ := PolicyWork.acceptedRequest s; rw [h]
@[simp] theorem accepted_cause (s : State) : s.acceptedRequest.cause = s.cause := by
  obtain ⟨_, _, h⟩ := PolicyWork.acceptedRequest s; rw [h]
@[simp] theorem accepted_bays (s : State) : s.acceptedRequest.bays = s.bays := by
  obtain ⟨_, _, h⟩ := PolicyWork.acceptedRequest s; rw [h]
@[simp] theorem accepted_bay (s : State) (b : BayId) : s.acceptedRequest.bay b = s.bay b := by simp [State.bay]
@[simp] theorem accepted_arbiter (s : State) : s.acceptedRequest.arbiter = s.arbiter := by
  obtain ⟨_, _, h⟩ := PolicyWork.acceptedRequest s; rw [h]
@[simp] theorem accepted_motion (s : State) : s.acceptedRequest.motion = s.motion := by
  obtain ⟨_, _, h⟩ := PolicyWork.acceptedRequest s; rw [h]
@[simp] theorem accepted_supply (s : State) : s.acceptedRequest.supply = s.supply := by
  obtain ⟨_, _, h⟩ := PolicyWork.acceptedRequest s; rw [h]
@[simp] theorem accepted_link (s : State) : s.acceptedRequest.link = s.link := by
  obtain ⟨_, _, h⟩ := PolicyWork.acceptedRequest s; rw [h]
@[simp] theorem accepted_notices (s : State) : s.acceptedRequest.notices = s.notices := by
  obtain ⟨_, _, h⟩ := PolicyWork.acceptedRequest s; rw [h]
@[simp] theorem accepted_faults (s : State) : s.acceptedRequest.faults = s.faults := by
  obtain ⟨_, _, h⟩ := PolicyWork.acceptedRequest s; rw [h]
@[simp] theorem accepted_inputs (s : State) : s.acceptedRequest.inputs = s.inputs := by
  obtain ⟨_, _, h⟩ := PolicyWork.acceptedRequest s; rw [h]
@[simp] theorem accepted_drawn (s : State) : s.acceptedRequest.drawn = s.drawn := by
  obtain ⟨_, _, h⟩ := PolicyWork.acceptedRequest s; rw [h]
@[simp] theorem accepted_pending (s : State) : s.acceptedRequest.pending = s.pending := by
  obtain ⟨_, _, h⟩ := PolicyWork.acceptedRequest s; rw [h]

end Sys2Proof.Machine
end

