-- ==== Sys2Proof/Laws/Commands.lean ====
section
/-! SUPPORT. What the commands of the bays, of the arbiter and of the policy can change: a command of a bay or of the
arbiter changes bays and arbiter and hands reports on (`BayWork`), one of the policy changes the policy and hands
reports on (`PolicyWork`). -/

namespace Sys2Proof.Machine

theorem BayWork.takeUnseat (b : BayId) (s : State) : BayWork s (takeUnseat b s) := by
  simp only [Machine.takeUnseat]; split
  · split
    all_goals first
      | exact .mapBay ..
      | exact (BayWork.mapBay ..).trans
          (((BayWork.unqueue ..).trans (.mapBay ..)).trans ((BayWork.toStopped ..).trans (.evaluate _)))
      | exact (BayWork.mapBay ..).trans (.toFaulted ..)
  · exact .refl _

theorem BayWork.takeReseat (b : BayId) (s : State) : BayWork s (takeReseat b s) := by
  simp only [Machine.takeReseat]; split
  · exact .refl _
  · exact (BayWork.mapBay ..).trans (.queueIfWanted ..)

theorem BayWork.takePrkRelease (b : BayId) (s : State) : BayWork s (takePrkRelease b s) := by
  simp only [Machine.takePrkRelease]; split
  · split
    all_goals first
      | exact .mapBay ..
      | exact (BayWork.mapBay ..).trans (.toUnloading ..)
      | exact (BayWork.mapBay ..).trans ((BayWork.mapBay ..).trans (.postBay ..))
  · exact .refl _

theorem BayWork.takePrkAssertion (b : BayId) (s : State) : BayWork s (takePrkAssertion b s) := by
  simp only [Machine.takePrkAssertion]; split
  · exact .refl _
  · split
    all_goals exact .mapBay ..

theorem BayWork.takeGuardExpiry (b : BayId) (s : State) : BayWork s (takeGuardExpiry b s) := by
  simp only [Machine.takeGuardExpiry]; split
  · exact .mapBay ..
  · exact .refl _

theorem BayWork.takeCompletionTest (b : BayId) (s : State) : BayWork s (takeCompletionTest b s) := by
  simp only [Machine.takeCompletionTest]; split
  · split
    · exact .toSpinningUnloaded ..
    · exact .toStopping ..
  · exact .refl _

theorem BayWork.takeRampStep (b : BayId) (s : State) : BayWork s (takeRampStep b s) := by
  simp only [Machine.takeRampStep]; split
  · exact .mapBay ..
  · exact .refl _

theorem BayWork.takeSpinupTimeout (b : BayId) (s : State) : BayWork s (takeSpinupTimeout b s) := by
  simp only [Machine.takeSpinupTimeout]; split
  · exact (BayWork.mapBay ..).trans (.toStopping ..)
  · exact .refl _

theorem BayWork.takeSettleTimeout (b : BayId) (s : State) : BayWork s (takeSettleTimeout b s) := by
  simp only [Machine.takeSettleTimeout]; split
  · exact (BayWork.mapBay ..).trans (.toStopping ..)
  · exact .refl _

theorem BayWork.takeSilence (b : BayId) (s : State) : BayWork s (takeSilence b s) := by
  simp only [Machine.takeSilence]; split
  · split
    · exact (BayWork.mapBay ..).trans (.speedLost ..)
    · exact .mapBay ..
  · exact .refl _

theorem BayWork.takeTachQuiet (b : BayId) (s : State) : BayWork s (takeTachQuiet b s) := by
  simp only [Machine.takeTachQuiet]; split
  · split
    · exact .toFaulted ..
    · exact (BayWork.toStopped ..).trans (.queueIfWanted ..)
  · exact .refl _

theorem BayWork.takeStopTimeout (b : BayId) (s : State) : BayWork s (takeStopTimeout b s) := by
  simp only [Machine.takeStopTimeout]; split
  · exact .toFaulted ..
  · exact .refl _

theorem BayWork.takeLoadTimeout (b : BayId) (s : State) : BayWork s (takeLoadTimeout b s) := by
  simp only [Machine.takeLoadTimeout]; split
  · exact (BayWork.mapBay ..).trans (.toUnloading ..)
  · exact .refl _

theorem BayWork.takeUnloadTimeout (b : BayId) (s : State) : BayWork s (takeUnloadTimeout b s) := by
  simp only [Machine.takeUnloadTimeout]; split
  · exact ((BayWork.mapBay ..).trans (.toStopping ..)).trans (.handOn ..)
  · exact .refl _

theorem BayWork.takeForcedUnload (b : BayId) (s : State) : BayWork s (takeForcedUnload b s) := by
  simp only [Machine.takeForcedUnload]; split
  · exact (BayWork.toUnloading ..).trans (.handOn ..)
  · exact .refl _

theorem BayWork.takeStopOrder (b : BayId) (s : State) : BayWork s (takeStopOrder b s) := by
  simp only [Machine.takeStopOrder]
  split
  all_goals first
    | exact .mapBay ..
    | exact (BayWork.mapBay ..).trans (.mapBay ..)
    | exact (BayWork.mapBay ..).trans ((BayWork.mapBay ..).trans (.toStopping ..))
    | exact (BayWork.mapBay ..).trans (((BayWork.mapBay ..).trans (.toUnloading ..)).trans (.handOn ..))

theorem BayWork.takeLoadPermission (b : BayId) (v : Bool) (s : State) : BayWork s (takeLoadPermission b v s) := by
  simp only [Machine.takeLoadPermission]
  split
  · exact (BayWork.mapBay ..).trans (.loadTest ..)
  · exact .mapBay ..

theorem BayWork.takeSpinGate (v : Bool) (s : State) : BayWork s (takeSpinGate v s) := by
  simp only [Machine.takeSpinGate]
  split
  · exact (BayWork.setArbiter ..).trans (.evaluate ..)
  · exact .setArbiter ..

theorem BayWork.takeSpacingExpiry (s : State) : BayWork s (takeSpacingExpiry s) := by
  simp only [Machine.takeSpacingExpiry]
  split
  · exact (BayWork.setArbiter ..).trans (.evaluate ..)
  · exact .refl _

theorem BayWork.testPeriod (s : State) (b : BayId) (period : Nat) : BayWork s (s.testPeriod b period) := by
  simp only [State.testPeriod]
  repeat' split
  all_goals first
    | exact .refl _
    | exact .mapBay ..
    | exact (BayWork.mapBay ..).trans (.toSpinningProven ..)
    | exact (BayWork.mapBay ..).trans (.speedLost ..)

theorem BayWork.takeTachEdge (b : BayId) (us : Nat) (s : State) : BayWork s (takeTachEdge b us s) := by
  simp only [Machine.takeTachEdge]
  split
  · split
    · exact .mapBay ..
    · exact ((BayWork.mapBay ..).trans (.mapBay ..)).trans (.testPeriod ..)
  · exact .refl _

theorem BayWork.takePwmBoundary (b : BayId) (s : State) : BayWork s (takePwmBoundary b s) := .mapBay ..

theorem BayWork.takeStopOrderLift (b : BayId) (s : State) : BayWork s (takeStopOrderLift b s) := .mapBay ..

theorem BayWork.takeSource (src : Source) (s : State) : BayWork s (takeSource src s) :=
  (BayWork.setArbiter ..).trans (.evaluate _)

theorem PolicyWork.takeAssertion (i : CaseInput) (s : State) : PolicyWork s (takeAssertion i s) := by
  simp only [Machine.takeAssertion, State.postInput, post_eq]; split
  · exact .refl _
  · split
    · exact .setPolicy ..
    · exact ((PolicyWork.setPolicy ..).trans (.reevaluate _)).trans (.handOn ..)
    · exact ((((PolicyWork.setPolicy ..).trans (.handOn ..)).trans (.handOn ..)).trans (.policyInput ..)).trans
        (.handOn ..)

theorem PolicyWork.takeRelease (i : CaseInput) (s : State) : PolicyWork s (takeRelease i s) := by
  simp only [Machine.takeRelease, State.postInput, post_eq]; split
  · split
    · exact .setPolicy ..
    · exact .setPolicy ..
    · exact ((((PolicyWork.handOn ..).trans (.handOn ..)).trans (.setPolicy ..)).trans (.reevaluate _))
  · exact .refl _

theorem PolicyWork.takeVerdict (cls : Option MotionClass) (tilt : Option Tilt) (quiet : Option Bool) (s : State) :
    PolicyWork s (takeVerdict cls tilt quiet s) := .policyInput ..

theorem PolicyWork.takeSupplyState (st : SupplyState) (s : State) : PolicyWork s (takeSupplyState st s) :=
  .policyInput ..

end Sys2Proof.Machine
end

