-- ==== Sys2Proof/Laws/Link.lean ====
section
/-! SUPPORT. The Link Port: byte sums and frames, what an item does, what a reply changes, when a character is taken, and
TXD through a reply. -/

namespace Sys2Proof

/-! ## Bytes and frames -/

@[simp] theorem half_le16 (h : Half) : half (h.extractLsb' 0 8) (h.extractLsb' 8 8) = h := by
  unfold half
  ext i hi
  simp only [BitVec.getElem_append, BitVec.getElem_extractLsb']
  split
  · simp [BitVec.getLsbD_eq_getElem hi]
  · have : 8 + (i - 8) = i := by omega
    simp [this, BitVec.getLsbD_eq_getElem hi]

theorem le16_half (lo hi : Byte) : le16 (half lo hi) = [lo, hi] := by
  simp only [le16, half, List.cons.injEq, and_true]
  constructor
  · ext i h
    rw [BitVec.getElem_extractLsb', BitVec.getLsbD_append]
    simp [h]
  · ext i h
    rw [BitVec.getElem_extractLsb', BitVec.getLsbD_append]
    simp [BitVec.getLsbD_eq_getElem h]

@[simp] theorem le16_length (h : Half) : (le16 h).length = 2 := rfl
@[simp] theorem le32_length (w : Clock) : (le32 w).length = 4 := rfl

theorem byteSum_append (l m : List Byte) : byteSum (l ++ m) = byteSum l + byteSum m := by
  induction l with
  | nil => simp [byteSum]
  | cons a l ih => simp [byteSum, ih, BitVec.add_assoc]

/-- LEN, body and CHECK of a frame sum to 0 (R169). -/
theorem byteSum_frame (body : List Byte) : byteSum (Sys2Proof.frame body).tail = 0 := by
  simp [Sys2Proof.frame, byteSum, byteSum_append]

@[simp] theorem frame_length (body : List Byte) : (Sys2Proof.frame body).length = body.length + 3 := by
  simp [Sys2Proof.frame]

end Sys2Proof

namespace Sys2Proof.Machine

/-! ## Items -/

theorem itemMade_idle {s : State} (h : s.link.tx = .idle) (item : Item) : s.itemMade item = s.dispatch item := by
  simp [State.itemMade, h]

theorem itemMade_held {s : State} (h : s.link.tx ≠ .idle) (h' : s.link.held = none) (item : Item) :
    s.itemMade item = s.setLink { s.link with held := some item } := by
  unfold State.itemMade
  split
  · contradiction
  · simp [h']

theorem itemMade_overrun {s : State} (h : s.link.tx ≠ .idle) (h' : s.link.held ≠ none) (item : Item) :
    s.itemMade item = s.setLink { s.link with overrun := true } := by
  unfold State.itemMade
  split
  · contradiction
  · split
    · contradiction
    · rfl

theorem dispatch_request (s : State) (r : Request) :
    s.dispatch (.request r) =
      (carryOut r s.acceptedRequest).2.sendReply (r.kind + 0x80) (carryOut r s.acceptedRequest).1.result
        (carryOut r s.acceptedRequest).1.clamped (carryOut r s.acceptedRequest).1.payload (decide (r = .restart)) := rfl

/-- A request that the part can carry out at once: its report, its work, its reply. -/
theorem request_answered {s : State} (hp : s.phase = .operating) (ht : s.link.tx = .idle) (c : Instr) (r : Request) :
    s.event c (takeRequest r) = .next ((s.taken c).dispatch (.request r)) := by
  rw [event_operating hp, takeRequest, itemMade_idle (by simpa using ht)]

/-! ## Replies -/

@[simp] theorem sendReply_clock (s : State) (k : Byte) (r : Result) (c : Bool) (p : List Byte) (x : Bool) :
    (s.sendReply k r c p x).clock = s.clock := rfl
@[simp] theorem sendReply_phase (s : State) (k : Byte) (r : Result) (c : Bool) (p : List Byte) (x : Bool) :
    (s.sendReply k r c p x).phase = s.phase := rfl
@[simp] theorem sendReply_cause (s : State) (k : Byte) (r : Result) (c : Bool) (p : List Byte) (x : Bool) :
    (s.sendReply k r c p x).cause = s.cause := rfl
@[simp] theorem sendReply_bays (s : State) (k : Byte) (r : Result) (c : Bool) (p : List Byte) (x : Bool) :
    (s.sendReply k r c p x).bays = s.bays := rfl
@[simp] theorem sendReply_bay (s : State) (k : Byte) (r : Result) (c : Bool) (p : List Byte) (x : Bool) (b : BayId) :
    (s.sendReply k r c p x).bay b = s.bay b := rfl
@[simp] theorem sendReply_arbiter (s : State) (k : Byte) (r : Result) (c : Bool) (p : List Byte) (x : Bool) :
    (s.sendReply k r c p x).arbiter = s.arbiter := rfl
@[simp] theorem sendReply_motion (s : State) (k : Byte) (r : Result) (c : Bool) (p : List Byte) (x : Bool) :
    (s.sendReply k r c p x).motion = s.motion := rfl
@[simp] theorem sendReply_policy (s : State) (k : Byte) (r : Result) (c : Bool) (p : List Byte) (x : Bool) :
    (s.sendReply k r c p x).policy = s.policy := rfl
@[simp] theorem sendReply_supply (s : State) (k : Byte) (r : Result) (c : Bool) (p : List Byte) (x : Bool) :
    (s.sendReply k r c p x).supply = s.supply := rfl
@[simp] theorem sendReply_notices (s : State) (k : Byte) (r : Result) (c : Bool) (p : List Byte) (x : Bool) :
    (s.sendReply k r c p x).notices = s.notices := rfl
@[simp] theorem sendReply_faults (s : State) (k : Byte) (r : Result) (c : Bool) (p : List Byte) (x : Bool) :
    (s.sendReply k r c p x).faults = s.faults := rfl
@[simp] theorem sendReply_inputs (s : State) (k : Byte) (r : Result) (c : Bool) (p : List Byte) (x : Bool) :
    (s.sendReply k r c p x).inputs = s.inputs := rfl
@[simp] theorem sendReply_drawn (s : State) (k : Byte) (r : Result) (c : Bool) (p : List Byte) (x : Bool) :
    (s.sendReply k r c p x).drawn = s.drawn := rfl
@[simp] theorem sendReply_inFlight (s : State) (k : Byte) (r : Result) (c : Bool) (p : List Byte) (x : Bool) :
    (s.sendReply k r c p x).inFlight = s.inFlight := rfl
@[simp] theorem sendReply_pending (s : State) (k : Byte) (r : Result) (c : Bool) (p : List Byte) (x : Bool) :
    (s.sendReply k r c p x).pending = s.pending := rfl

/-- A reply changes the transmitter and the two indications that it carries. -/
theorem sendReply_link (s : State) (k : Byte) (r : Result) (c : Bool) (p : List Byte) (x : Bool) :
    (s.sendReply k r c p x).link =
      { s.link with
        overrun := false, lapseSeen := false,
        tx := .sending (Sys2Proof.frame (replyBody k r (s.flags c) p)) x } := rfl

/-! ## The line -/

/-- A receiver that looks for a start bit takes the character (R167). -/
theorem takeCharacter_taken {s : State} (h : s.link.awaitHigh = false ∨ s.inputs.rxdHigh = true) (c : Byte)
    (stopHigh : Bool) :
    takeCharacter c stopHigh s = (s.setLink { s.link with awaitHigh := !stopHigh }).receive c := by
  rcases h with h | h <;> simp [takeCharacter, State.seeksStart, h]

/-- A character with a good stop bit leaves a receiver that does not wait as `receive` does (R167). -/
theorem takeCharacter_good {s : State} (h : s.link.awaitHigh = false) (c : Byte) :
    takeCharacter c true s = s.receive c := by
  have same : s.setLink { s.link with awaitHigh := !true } = s := by
    cases s with | mk _ _ _ _ _ _ _ _ l => cases l; simp_all [State.setLink]
  rw [takeCharacter_taken (.inl h), same]

/-- While the receiver waits for RXD to be high and it is low, no character is taken (R167). -/
theorem takeCharacter_waits {s : State} (h : s.link.awaitHigh = true) (h' : s.inputs.rxdHigh = false) (c : Byte)
    (stopHigh : Bool) : takeCharacter c stopHigh s = s := by
  simp [takeCharacter, State.seeksStart, h, h']

@[simp] theorem characterLevels_length (c : Byte) (stopHigh : Bool) : (characterLevels c stopHigh).length = 10 := rfl

/-- TXD is high in reset, in a start-up interval, and with the transmitter idle (R165, R167, R183). -/
theorem txdHigh_rest {s : State} (h : s.phase ≠ .operating ∨ s.link.tx = .idle) (place : Nat) :
    s.txdHigh place = true := by
  unfold State.txdHigh
  split
  · rename_i ho
    rw [h.resolve_left (fun h => h (by simpa [State.operating] using ho))]
    simp [Transmitter.levels]
  · rfl

/-- Ten bits for each character of a reply. -/
theorem levels_length (restart : Bool) : ∀ f : List Byte, (Transmitter.sending f restart).levels.length = 10 * f.length
  | [] => rfl
  | c :: f => by
    have := levels_length restart f
    simp only [Transmitter.levels, List.flatMap_cons, List.length_append, characterLevels_length,
      List.length_cons] at this ⊢
    omega

/-- Character `i` of a reply stands at the bits from `10 * i` on. -/
theorem levels_at (restart : Bool) : ∀ (f : List Byte) (i : Nat) (c : Byte) (k : Nat), f[i]? = some c → k < 10 →
    (Transmitter.sending f restart).levels[10 * i + k]? = (characterLevels c true)[k]?
  | [], _, _, _, h, _ => by simp at h
  | d :: f, 0, c, k, h, hk => by
    obtain rfl : d = c := by simpa using h
    simp only [Transmitter.levels, List.flatMap_cons]
    rw [List.getElem?_append_left (by simpa using hk)]
    simp
  | d :: f, i + 1, c, k, h, hk => by
    have hi := levels_at restart f i c k (by simpa using h) hk
    simp only [Transmitter.levels, List.flatMap_cons] at hi ⊢
    rw [List.getElem?_append_right (by simp only [characterLevels_length]; omega), ← hi, characterLevels_length]
    congr 1
    omega

end Sys2Proof.Machine
end

