-- ==== Sys2Proof/Laws/Motion.lean ====
section
/-! SUPPORT. The Motion Unit: what an arrival hands on, the open episode, the judging of an arrival field by field, a
class made UNPRIMED, what motion commands can change, and the port at rest. -/

namespace Sys2Proof.Machine

/-! ## Handing on -/

/-- Nothing changed is not handed to the policy; what changed is, in one event. -/
theorem handVerdict_eq (s : State) (cls : Option MotionClass) (tilt : Option Tilt) (quiet : Option Bool) :
    s.handVerdict cls tilt quiet =
      s.handOn (if cls.isSome || tilt.isSome || quiet.isSome then [.motionVerdictHandoff cls tilt quiet] else []) := by
  unfold State.handVerdict
  split
  · rfl
  · rw [handOn_nil]

/-- The notices of an arrival, in order (R125 step 4). -/
def arrivalNotices (m : Motion) (now : Clock) (d : Detections) (before : MotionClass) : List Instr :=
  (if d.shock then [.noticePost .shock now (payloadOf (BitVec.ofNat 16 d.peak) m.openSequence)] else []) ++
  (if d.freefall then [.noticePost .freefall now (payloadOf m.openSequence 0)] else []) ++
  (if before = m.cls then [] else
    [.noticePost .motion now
      { b0 := packed (classCode m.cls), b1 := (BitVec.ofNat 16 m.level).extractLsb' 0 8,
        b2 := (BitVec.ofNat 16 m.level).extractLsb' 8 8, b3 := 0 }]) ++
  (if d.tiltEntry || d.tiltExit then
    [.noticePost .tilt now { b0 := packed m.tilt.isTilted.toNat, b1 := 0, b2 := 0, b3 := 0 }] else [])

theorem postArrival_eq (s : State) (d : Detections) (before : MotionClass) :
    s.postArrival d before = s.handOn (arrivalNotices s.motion s.clock d before) := by
  unfold State.postArrival arrivalNotices
  cases d.shock <;> cases d.freefall <;> by_cases h : before = s.motion.cls <;>
    cases d.tiltEntry <;> cases d.tiltExit <;> simp [h, State.post, State.handOn]

/-- A class that is made UNPRIMED outside the arrivals is posted with L 0 and handed on (R113, R114). -/
theorem unprime_eq (s : State) :
    s.unprime =
      if s.motion.cls = .unprimed then s
      else (s.setMotion { s.motion with cls := .unprimed }).handOn
        [.noticePost .motion s.clock { b0 := 0, b1 := 0, b2 := 0, b3 := 0 },
         .motionVerdictHandoff (some .unprimed) none none] := by
  simp only [State.unprime]
  split
  · rfl
  · simp only [post_eq, handOn_handOn]; rfl

/-! ## The open episode -/

theorem openEpisode_nil {m : Motion} (h : m.episodes = []) : m.openEpisode = none := by simp [Motion.openEpisode, h]

theorem openEpisode_cons {m : Motion} {e : Episode} {es : List Episode} (h : m.episodes = e :: es) :
    m.openEpisode = if e.duration.isNone then some e else none := by simp [Motion.openEpisode, h]

/-- An open episode is the head of the list, without a duration. -/
theorem openEpisode_some {m : Motion} {e : Episode} :
    m.openEpisode = some e ↔ ∃ es, m.episodes = e :: es ∧ e.duration = none := by
  unfold Motion.openEpisode
  split
  · rename_i h; simp [h]
  · rename_i x xs h
    rw [h]
    cases hd : x.duration with
    | none =>
      simp only [Option.isNone_none, if_true, Option.some.injEq, List.cons.injEq]
      constructor
      · rintro rfl; exact ⟨xs, ⟨rfl, rfl⟩, hd⟩
      · rintro ⟨es, ⟨rfl, -⟩, -⟩; rfl
    | some v =>
      simp only [Option.isNone_some, Bool.false_eq_true, if_false, List.cons.injEq]
      constructor
      · intro h; cases h
      · rintro ⟨es, ⟨rfl, -⟩, h⟩; rw [hd] at h; cases h

/-- Without an open episode nothing of the list changes. -/
theorem mapOpen_none {m : Motion} (h : m.openEpisode = none) (f : Episode → Episode) : m.mapOpen f = m := by
  unfold Motion.openEpisode at h
  unfold Motion.mapOpen
  split
  · rfl
  · rename_i e es he
    rw [he] at h
    dsimp only at h
    split at h
    · cases h
    · rw [if_neg ‹_›]

/-- The head of the list changes while it is open. -/
theorem mapOpen_cons {m : Motion} {e : Episode} {es : List Episode} (h : m.episodes = e :: es) (hd : e.duration = none)
    (f : Episode → Episode) : m.mapOpen f = { m with episodes := f e :: es } := by
  simp [Motion.mapOpen, h, hd]

theorem mapOpen_keeps (m : Motion) (f : Episode → Episode) : ∃ es, m.mapOpen f = { m with episodes := es } := by
  unfold Motion.mapOpen
  split
  · exact ⟨m.episodes, rfl⟩
  · split
    · exact ⟨_, rfl⟩
    · exact ⟨m.episodes, rfl⟩

/-! ## An arrival judged -/

/-- The episode work changes the list and the sequence counter alone. -/
theorem episodeWork_keeps (m : Motion) (now : Clock) (d : Detections) :
    ∃ es n, m.episodeWork now d = { m with episodes := es, sequence := n } := by
  unfold Motion.episodeWork
  split
  · obtain ⟨es, h⟩ := mapOpen_keeps m _; rw [h]; exact ⟨es, m.sequence, rfl⟩
  · split
    · exact ⟨_, _, rfl⟩
    · exact ⟨m.episodes, m.sequence, rfl⟩

/-- The judging of an arrival, said whole: the class, the episode work, and with a cause of R116 a restart. -/
theorem judge_eq (m : Motion) (now : Clock) (d : Detections) :
    m.judge now d =
      if restartCause m.cls (m.classAfter d) d m.tilt then
        ({ m with cls := m.classAfter d }.episodeWork now d).restartQuiet now
      else { m with cls := m.classAfter d }.episodeWork now d := rfl

@[simp] theorem judge_cls (m : Motion) (now : Clock) (d : Detections) : (m.judge now d).cls = m.classAfter d := by
  obtain ⟨_, _, h⟩ := episodeWork_keeps { m with cls := m.classAfter d } now d
  rw [judge_eq, h]; split <;> rfl

/-- The judging leaves what the arrival measured. -/
theorem judge_keeps (m : Motion) (now : Clock) (d : Detections) :
    ∃ c es n q k, m.judge now d =
      { m with cls := c, episodes := es, sequence := n, quiet := q, multiplier := k } := by
  obtain ⟨_, _, h⟩ := episodeWork_keeps { m with cls := m.classAfter d } now d
  rw [judge_eq, h]
  split
  · exact ⟨_, _, _, _, _, rfl⟩
  · exact ⟨_, _, _, _, _, rfl⟩

/-- The judging's list and counter are those of the episode work. -/
theorem judge_episodes (m : Motion) (now : Clock) (d : Detections) :
    (m.judge now d).episodes = (m.episodeWork now d).episodes ∧
      (m.judge now d).sequence = (m.episodeWork now d).sequence := by
  have same : ({ m with cls := m.classAfter d }.episodeWork now d).episodes = (m.episodeWork now d).episodes ∧
      ({ m with cls := m.classAfter d }.episodeWork now d).sequence = (m.episodeWork now d).sequence := by
    simp only [Motion.episodeWork, Motion.openEpisode, Motion.mapOpen]
    split <;> split <;> (try split) <;> simp_all [Motion.openNew]
  rw [judge_eq]
  split <;> exact same

/-! ## What motion commands change -/

/-- Only the Motion Unit changed, and reports were handed on. -/
def MotionWork (s t : State) : Prop := ∃ m l, t = { s with motion := m, inFlight := s.inFlight ++ l }

theorem MotionWork.refl (s : State) : MotionWork s s := ⟨s.motion, [], by simp⟩

theorem MotionWork.trans {s t u : State} (h : MotionWork s t) (h' : MotionWork t u) : MotionWork s u := by
  obtain ⟨_, l, rfl⟩ := h
  obtain ⟨m, k, rfl⟩ := h'
  exact ⟨m, l ++ k, by simp⟩

theorem MotionWork.setMotion (s : State) (m : Motion) : MotionWork s (s.setMotion m) :=
  ⟨m, [], by simp [State.setMotion]⟩

theorem MotionWork.handOn (s : State) (l : List Instr) : MotionWork s (s.handOn l) := ⟨s.motion, l, rfl⟩

theorem MotionWork.post (s : State) (k : Key) (p : NoticePayload) : MotionWork s (s.post k p) := .handOn ..

theorem MotionWork.postSensor (s : State) : MotionWork s s.postSensor := .post ..

theorem MotionWork.unprime (s : State) : MotionWork s s.unprime := by
  rw [unprime_eq]; split
  · exact .refl s
  · exact (MotionWork.setMotion ..).trans (.handOn ..)

theorem MotionWork.setupFailure (s : State) : MotionWork s s.setupFailure := by
  simp only [State.setupFailure]; split
  · exact ((MotionWork.setMotion ..).trans (.handOn ..)).trans (.postSensor _)
  · exact .setMotion ..

theorem MotionWork.handVerdict (s : State) (cls : Option MotionClass) (tilt : Option Tilt) (quiet : Option Bool) :
    MotionWork s (s.handVerdict cls tilt quiet) := by rw [handVerdict_eq]; exact .handOn ..

theorem MotionWork.closeEpisode (s : State) : MotionWork s s.closeEpisode := by
  unfold State.closeEpisode; split
  · exact .refl s
  · exact (MotionWork.setMotion ..).trans (.post ..)

theorem MotionWork.motionSetup (s : State) (t : MotionSettings) : MotionWork s (s.motionSetup t) := by
  simp only [State.motionSetup]; split
  · exact (MotionWork.setMotion ..).trans (.unprime _)
  · exact .setMotion ..

theorem MotionWork.takeIdentity (id : Byte) (s : State) : MotionWork s (takeIdentity id s) := by
  simp only [Machine.takeIdentity]; split
  · split
    · exact .setMotion ..
    · exact .setupFailure s
  · exact .refl s

theorem MotionWork.takeWindowExpiry (s : State) : MotionWork s (takeWindowExpiry s) := by
  simp only [Machine.takeWindowExpiry]; split
  · exact .setupFailure s
  · exact .refl s

theorem MotionWork.takeRetryExpiry (s : State) : MotionWork s (takeRetryExpiry s) := by
  simp only [Machine.takeRetryExpiry]; split
  · exact .setMotion ..
  · exact .refl s

theorem MotionWork.takeDrdy (s : State) : MotionWork s (takeDrdy s) := by
  simp only [Machine.takeDrdy]; split
  · exact .setMotion ..
  · split
    · exact .refl s
    · split
      · exact .setMotion ..
      · exact (MotionWork.setMotion ..).trans (.postSensor _)
  · exact .refl s

theorem MotionWork.takeWatchExpiry (s : State) : MotionWork s (takeWatchExpiry s) := by
  simp only [Machine.takeWatchExpiry]; split
  · exact (((MotionWork.setMotion ..).trans (.handOn ..)).trans (.postSensor _)).trans (.unprime _)
  · exact .refl s

theorem MotionWork.takeArrival (x y z : Half) (s : State) : MotionWork s (takeArrival x y z s) := by
  simp only [Machine.takeArrival]; split
  · rw [postArrival_eq]
    exact ((MotionWork.setMotion ..).trans (.handOn ..)).trans (.handVerdict ..)
  · exact .refl s

theorem MotionWork.takeQuietExpiry (s : State) : MotionWork s (takeQuietExpiry s) := by
  simp only [Machine.takeQuietExpiry]; split
  · exact ((MotionWork.setMotion ..).trans (.closeEpisode _)).trans (.handVerdict ..)
  · exact .refl s

theorem MotionWork.takeQuietRestart (s : State) : MotionWork s (takeQuietRestart s) :=
  (MotionWork.setMotion ..).trans (.handVerdict ..)

theorem MotionWork.takeUnloadReport (s : State) : MotionWork s (takeUnloadReport s) := .setMotion ..

theorem MotionWork.takeStrandingReport (s : State) : MotionWork s (takeStrandingReport s) := .setMotion ..

/-! ## The accelerometer's port -/

/-- The outputs of the port are at rest in reset, in a start-up interval, and with no transfer in progress (R88, R165). -/
theorem spiPins_rest {s : State} (h : s.phase ≠ .operating ∨ s.motion.port = .idle) (place : Nat) :
    s.spiPins place = .rest := by
  unfold State.spiPins
  split
  · rename_i ho
    rw [h.resolve_left (fun h => h (by simpa [State.operating] using ho))]
    simp [Port.levels, Port.transfers]
  · rfl

end Sys2Proof.Machine
end

