-- ==== Sys2Proof/Laws/Notices.lean ====
section
/-! SUPPORT. The Notice Queue: where a posted, a pending and an entering notice goes, which pending notice enters next,
that the filling from pending goes on until no place is free or nothing unmasked is pending; and what a capture does. -/

namespace Sys2Proof.Machine

/-! ## Lists by place -/

/-- A prefix that a test holds on, before a rest that it fails on at once. -/
theorem takeWhile_append_of {α : Type} {p : α → Bool} {front back : List α} (hf : ∀ e ∈ front, p e = true)
    (hb : ∀ e ∈ back, p e = false) : (front ++ back).takeWhile p = front := by
  induction front with
  | nil => cases back with
    | nil => rfl
    | cons y ys => simp [hb y]
  | cons x xs ih => simp [hf x, ih fun e he => hf e (List.mem_cons_of_mem x he)]

theorem dropWhile_append_of {α : Type} {p : α → Bool} {front back : List α} (hf : ∀ e ∈ front, p e = true)
    (hb : ∀ e ∈ back, p e = false) : (front ++ back).dropWhile p = back := by
  induction front with
  | nil => cases back with
    | nil => rfl
    | cons y ys => simp [hb y]
  | cons x xs ih => simp [hf x, ih fun e he => hf e (List.mem_cons_of_mem x he)]

/-- An urgent entry stands behind the last urgent one. -/
theorem placeEntry_urgent {e : Notice} (h : e.key.urgent = true) {front back : List Notice}
    (hf : ∀ x ∈ front, x.key.urgent = true) (hb : ∀ x ∈ back, x.key.urgent = false) :
    placeEntry (front ++ back) e = front ++ e :: back := by
  rw [placeEntry, if_pos h, takeWhile_append_of hf hb, dropWhile_append_of hf hb]

/-- A routine entry stands at the tail. -/
theorem placeEntry_routine {e : Notice} (h : e.key.urgent = false) (q : List Notice) :
    placeEntry q e = q ++ [e] := by simp [placeEntry, h]

/-- A pending record stands in its place by key number. -/
theorem insertPending_between {e : Notice} {front back : List Notice}
    (hf : ∀ x ∈ front, x.key.number < e.key.number) (hb : ∀ x ∈ back, e.key.number < x.key.number) :
    insertPending (front ++ back) e = front ++ e :: back := by
  have h1 : ∀ x ∈ front, decide (x.key.number < e.key.number) = true := fun x hx => by simp [hf x hx]
  have h2 : ∀ x ∈ back, decide (x.key.number < e.key.number) = false := fun x hx => by
    have := hb x hx
    simp; omega
  rw [insertPending, takeWhile_append_of h1 h2, dropWhile_append_of h1 h2]

/-- In a list with each key once, the notice of key `k` alone is brought up to date. -/
theorem coalesce_at {k : Key} {e : Notice} {front back : List Notice} (time : Clock) (p : NoticePayload)
    (hk : e.key = k) (hn : ((front ++ e :: back).map (·.key)).Nodup) :
    coalesce (front ++ e :: back) k time p = front ++ e.again time p :: back := by
  have keep : ∀ l : List Notice, (∀ x ∈ l, x.key ≠ k) →
      (l.map fun x => if x.key = k then x.again time p else x) = l := by
    intro l hl
    induction l with
    | nil => rfl
    | cons x xs ih => simp [hl x, ih fun y hy => hl y (List.mem_cons_of_mem x hy)]
  simp only [List.map_append, List.map_cons, List.nodup_append, List.nodup_cons, List.mem_map, List.mem_cons] at hn
  obtain ⟨-, ⟨hb, -⟩, hf⟩ := hn
  simp only [coalesce, List.map_append, List.map_cons, if_pos hk]
  rw [keep front fun x hx hxk => hf x.key ⟨x, hx, rfl⟩ k (.inl hk.symm) hxk,
    keep back fun x hx hxk => hb ⟨x, hx, hxk.trans hk.symm⟩]

/-! ## A post by its four cases -/

theorem queued_iff {n : Notices} {k : Key} : n.queued k = true ↔ ∃ e ∈ n.queue, e.key = k := by simp [Notices.queued]

theorem isPending_iff {n : Notices} {k : Key} : n.isPending k = true ↔ ∃ e ∈ n.pending, e.key = k := by
  simp [Notices.isPending]

theorem queued_eq_false {n : Notices} {k : Key} : n.queued k = false ↔ ∀ e ∈ n.queue, e.key ≠ k := by
  simp [Notices.queued]

theorem isPending_eq_false {n : Notices} {k : Key} : n.isPending k = false ↔ ∀ e ∈ n.pending, e.key ≠ k := by
  simp [Notices.isPending]

theorem posted_queued {n : Notices} {k : Key} (h : n.queued k = true) (time : Clock) (p : NoticePayload) :
    n.posted k time p = { n with queue := coalesce n.queue k time p } := by simp [Notices.posted, h]

theorem posted_pending {n : Notices} {k : Key} (h : n.queued k = false) (h' : n.isPending k = true) (time : Clock)
    (p : NoticePayload) : n.posted k time p = { n with pending := coalesce n.pending k time p } := by
  simp [Notices.posted, h, h']

theorem posted_placed {n : Notices} {k : Key} (h : n.queued k = false) (h' : n.isPending k = false)
    (hm : n.masked k = false) (hl : n.queue.length < 8) (time : Clock) (p : NoticePayload) :
    n.posted k time p =
      { n with queue := placeEntry n.queue { key := k, count := 1, time := time, payload := p } } := by
  simp [Notices.posted, h, h', hm, Config.noticePlaces, hl]

theorem posted_waits {n : Notices} {k : Key} (h : n.queued k = false) (h' : n.isPending k = false)
    (hw : n.masked k = true ∨ 8 ≤ n.queue.length) (time : Clock) (p : NoticePayload) :
    n.posted k time p =
      { n with pending := insertPending n.pending { key := k, count := 1, time := time, payload := p } } := by
  have hn : (!n.masked k && decide (n.queue.length < Config.noticePlaces)) = false := by
    rcases hw with hw | hw
    · simp [hw]
    · rw [decide_eq_false (show ¬ n.queue.length < Config.noticePlaces from Nat.not_lt.mpr hw), Bool.and_false]
  simp [Notices.posted, h, h', hn]

@[simp] theorem posted_mask (n : Notices) (k : Key) (time : Clock) (p : NoticePayload) :
    (n.posted k time p).mask = n.mask := by
  unfold Notices.posted
  repeat' split
  all_goals rfl

/-! ## Filling from pending -/

/-- The first of a list sorted by key number that passes a test has the lowest key number of those that do. -/
theorem find_lowest {l : List Notice} (h : l.Pairwise fun x y => x.key.number < y.key.number) {p : Notice → Bool}
    {e : Notice} :
    l.find? p = some e ↔ e ∈ l ∧ p e = true ∧ ∀ x ∈ l, p x = true → e.key.number ≤ x.key.number := by
  induction l with
  | nil => simp
  | cons y ys ih =>
    obtain ⟨hy, hys⟩ := List.pairwise_cons.mp h
    by_cases hp : p y = true
    · simp only [List.find?_cons, hp, Option.some.injEq, List.mem_cons]
      constructor
      · rintro rfl
        exact ⟨.inl rfl, hp, fun x hx _ => hx.elim (fun h => h ▸ Nat.le_refl _) fun h => Nat.le_of_lt (hy x h)⟩
      · rintro ⟨he, -, hle⟩
        rcases he with he | he
        · exact he.symm
        · have := hy e he
          have := hle y (.inl rfl) hp
          omega
    · simp only [List.find?_cons, hp, ih hys, List.mem_cons]
      constructor
      · rintro ⟨he, hpe, hle⟩
        refine ⟨.inr he, hpe, fun x hx hpx => ?_⟩
        rcases hx with rfl | hx
        · exact absurd hpx hp
        · exact hle x hx hpx
      · rintro ⟨he, hpe, hle⟩
        rcases he with rfl | he
        · exact absurd hpe hp
        · exact ⟨he, hpe, fun x hx => hle x (.inr hx)⟩

/-- Nothing enters exactly when nothing unmasked is pending. -/
theorem nextEntering_none {n : Notices} :
    n.nextEntering = none ↔ ∀ e ∈ n.pending, n.masked e.key = true := by
  unfold Notices.nextEntering
  split
  · rename_i e he
    constructor
    · intro h; cases h
    · intro h
      have hm := List.mem_of_find?_eq_some he
      have hp := List.find?_some he
      simp [h e hm] at hp
  · simp [List.find?_eq_none]

/-- The notice that enters is pending. -/
theorem nextEntering_mem {n : Notices} {e : Notice} (h : n.nextEntering = some e) : e ∈ n.pending := by
  unfold Notices.nextEntering at h
  split at h
  · rename_i x hx; cases h; exact List.mem_of_find?_eq_some hx
  · exact List.mem_of_find?_eq_some h

/-- With the pending records in the order of their keys, the notice that enters is the one that R201 names. -/
theorem nextEntering_some {n : Notices} (h : n.pending.Pairwise fun x y => x.key.number < y.key.number) {e : Notice} :
    n.nextEntering = some e ↔ n.entersNext e := by
  unfold Notices.nextEntering Notices.entersNext
  split
  · rename_i u hu
    obtain ⟨h1, h2, h3⟩ := (find_lowest h).mp hu
    simp only [Bool.and_eq_true, Bool.not_eq_true'] at h2 h3
    simp only [Option.some.injEq]
    constructor
    · rintro rfl
      exact ⟨h1, h2.1, fun q hq hm => ⟨fun _ => h2.2, fun hu => h3 q hq ⟨hm, hu.trans h2.2⟩⟩⟩
    · rintro ⟨he, hm, hle⟩
      have hu' : e.key.urgent = true := (hle u h1 h2.1).1 h2.2
      have a := h3 e he ⟨hm, hu'⟩
      have b := (hle u h1 h2.1).2 (h2.2.trans hu'.symm)
      have : u.key.number = e.key.number := by omega
      by_contra hne
      have := List.Pairwise.forall_of_forall_of_flip (R := fun x y : Notice => x.key.number = y.key.number → x = y)
        (l := n.pending) (fun x _ _ => rfl)
        (h.imp fun hlt heq => absurd heq (Nat.ne_of_lt hlt))
        (h.imp fun hlt heq => absurd heq (Nat.ne_of_gt hlt)) h1 he
      exact hne (this (by omega))
  · rename_i hn
    have none : ∀ q ∈ n.pending, n.masked q.key = false → q.key.urgent = false := by
      intro q hq hm
      have := List.find?_eq_none.mp hn q hq
      simpa [hm] using this
    rw [find_lowest h]
    simp only [Bool.not_eq_true']
    constructor
    · rintro ⟨he, hm, hle⟩
      exact ⟨he, hm, fun q hq hq' => ⟨fun hu => (by rw [none q hq hq'] at hu; cases hu), fun _ => hle q hq hq'⟩⟩
    · rintro ⟨he, hm, hle⟩
      exact ⟨he, hm, fun q hq hq' => (hle q hq hq').2 ((none q hq hq').trans (none e he hm).symm)⟩

/-- The filling has one outcome, whatever bound above the number of pending records it is given. -/
theorem fill_bound : ∀ (f g : Nat) (n : Notices), n.pending.length ≤ f → n.pending.length ≤ g →
    Notices.fill f n = Notices.fill g n := by
  have empty : ∀ (g : Nat) (n : Notices), n.pending = [] → Notices.fill g n = n := by
    intro g n h
    cases g with
    | zero => rfl
    | succ g => simp [Notices.fill, Notices.nextEntering, h]
  intro f
  induction f with
  | zero => intro g n h _; rw [empty g n (by simpa using h)]; rfl
  | succ f ih =>
    intro g n hf hg
    cases g with
    | zero => rw [empty (f + 1) n (by simpa using hg)]; rfl
    | succ g =>
      simp only [Notices.fill]
      split
      · split
        · rfl
        · rename_i e he
          have hlt : (n.pending.filter fun x => decide (x.key ≠ e.key)).length < n.pending.length :=
            List.length_filter_lt_length_iff_exists.mpr ⟨e, nextEntering_mem he, by simp⟩
          exact ih g _ (by simp only; omega) (by simp only; omega)
      · rfl

/-- With no place free, or nothing unmasked pending, the filling is over. -/
theorem filled_over {n : Notices} (h : 8 ≤ n.queue.length ∨ ∀ e ∈ n.pending, n.masked e.key = true) :
    n.filled = n := by
  unfold Notices.filled
  cases hl : n.pending.length with
  | zero => rfl
  | succ f =>
    simp only [Notices.fill]
    rcases h with h | h
    · rw [if_neg (show ¬ n.queue.length < Config.noticePlaces from Nat.not_lt.mpr h)]
    · rw [nextEntering_none.mpr h]; split <;> rfl

/-- With a place free, the filling places the notice that enters next and goes on. -/
theorem filled_step {n : Notices} {e : Notice} (hl : n.queue.length < 8) (he : n.nextEntering = some e) :
    n.filled =
      { n with
        queue := placeEntry n.queue e
        pending := n.pending.filter fun x => decide (x.key ≠ e.key) : Notices }.filled := by
  have hlt : (n.pending.filter fun x => decide (x.key ≠ e.key)).length < n.pending.length :=
    List.length_filter_lt_length_iff_exists.mpr ⟨e, nextEntering_mem he, by simp⟩
  unfold Notices.filled
  cases hp : n.pending.length with
  | zero => omega
  | succ f =>
    have hl' : n.queue.length < Config.noticePlaces := hl
    simp only [Notices.fill, if_pos hl', he]
    exact fill_bound _ _ _ (by simp only; omega) (Nat.le_refl _)

/-- Whatever holds of every notice queued or pending, and is kept by no change to a notice, the filling keeps. -/
theorem filled_induct {P : Notices → Prop} (n : Notices) (h0 : P n)
    (hs : ∀ (m : Notices) (e : Notice), P m → m.queue.length < 8 → m.nextEntering = some e →
      P { m with queue := placeEntry m.queue e, pending := m.pending.filter fun x => decide (x.key ≠ e.key) }) :
    P n.filled := by
  unfold Notices.filled
  generalize n.pending.length = f
  induction f generalizing n with
  | zero => exact h0
  | succ f ih =>
    simp only [Notices.fill]
    split
    · rename_i hl
      split
      · exact h0
      · rename_i e he; exact ih _ (hs n e h0 hl he)
    · exact h0

@[simp] theorem filled_mask (n : Notices) : n.filled.mask = n.mask :=
  filled_induct (P := fun m => m.mask = n.mask) n rfl fun _ _ h _ _ => h

/-! ## The fault record -/

/-- A capture taken by the empty record is stored, and its FAULT notice is posted in the same event (R207, R208). -/
theorem takeCapture_stored {c : Capture} {s : State} (h : s.faults.record = none) :
    takeCapture c s = takePost .fault s.clock { b0 := c.reasonCode, b1 := c.sourceCode, b2 := 0, b3 := 0 }
      (s.setFaults { record := some c, more := s.faults.more }) := by
  simp [takeCapture, FaultRecord.frozen, h]

/-- A capture that finds a record held sets more alone (R207). -/
theorem takeCapture_frozen {c : Capture} {s : State} (h : s.faults.record ≠ none) :
    takeCapture c s = s.setFaults { s.faults with more := true } := by
  simp [takeCapture, FaultRecord.frozen, Option.isSome_iff_ne_none, h]

end Sys2Proof.Machine
end

