-- ==== Sys2Proof/Laws/Requests.lean ====
section
/-! SUPPORT. What carrying out a request leaves alone, and with it every block's work: time, reset, the link, the pins
and the queue. -/

namespace Sys2Proof.Machine

/-- Clock, phase, cause, link, input pins and queue stand as before. -/
def WorkFrame (s t : State) : Prop :=
  t.clock = s.clock ∧ t.phase = s.phase ∧ t.cause = s.cause ∧ t.link = s.link ∧ t.inputs = s.inputs ∧
    t.pending = s.pending

theorem WorkFrame.refl (s : State) : WorkFrame s s := ⟨rfl, rfl, rfl, rfl, rfl, rfl⟩

theorem WorkFrame.trans {s t u : State} (h : WorkFrame s t) (h' : WorkFrame t u) : WorkFrame s u :=
  ⟨h'.1.trans h.1, h'.2.1.trans h.2.1, h'.2.2.1.trans h.2.2.1, h'.2.2.2.1.trans h.2.2.2.1,
    h'.2.2.2.2.1.trans h.2.2.2.2.1, h'.2.2.2.2.2.trans h.2.2.2.2.2⟩

theorem WorkFrame.of_bay {s t : State} (h : BayWork s t) : WorkFrame s t :=
  ⟨h.clock, h.phase, h.cause, h.link, h.inputs, h.pending⟩

theorem WorkFrame.of_policy {s t : State} (h : PolicyWork s t) : WorkFrame s t := by
  obtain ⟨_, _, rfl⟩ := h; exact ⟨rfl, rfl, rfl, rfl, rfl, rfl⟩

theorem WorkFrame.of_motion {s t : State} (h : MotionWork s t) : WorkFrame s t := by
  obtain ⟨_, _, rfl⟩ := h; exact ⟨rfl, rfl, rfl, rfl, rfl, rfl⟩

theorem WorkFrame.setNotices (s : State) (n : Notices) : WorkFrame s (s.setNotices n) :=
  ⟨rfl, rfl, rfl, rfl, rfl, rfl⟩

theorem WorkFrame.setFaults (s : State) (f : FaultRecord) : WorkFrame s (s.setFaults f) :=
  ⟨rfl, rfl, rfl, rfl, rfl, rfl⟩

theorem WorkFrame.drawFree (s : State) : WorkFrame s s.drawFree := ⟨rfl, rfl, rfl, rfl, rfl, rfl⟩

/-! ## Bay requests -/

theorem BayWork.applyAccess (s : State) (b : BayId) (a : Access) : BayWork s (s.applyAccess b a) := by
  unfold State.applyAccess
  split
  all_goals first
    | exact .refl s
    | exact (BayWork.mapBay ..).trans (.toStopped ..)
    | exact (BayWork.mapBay ..).trans (.postBay ..)
    | exact .mapBay ..

theorem BayWork.actOnAim (s : State) (b : BayId) (target : Intent) : BayWork s (s.actOnAim b target) := by
  unfold State.actOnAim
  split <;> (try split)
  all_goals first
    | exact .refl s
    | exact .joinQueue ..
    | exact ((BayWork.unqueue ..).trans (.toStopped ..)).trans (.evaluate _)
    | exact .toStopping ..
    | exact .loadTest ..
    | exact .toUnloading ..

theorem BayWork.priorityChanged (s : State) (b : BayId) (old new : Fin 4) :
    BayWork s (s.priorityChanged b old new) := by
  unfold State.priorityChanged; split
  · exact .evaluate s
  · exact .refl s

theorem BayWork.aimBay (s : State) (b : BayId) (target : Intent) (level : Fin 4) :
    BayWork s (s.aimBay b target level).2 := by
  simp only [State.aimBay]
  split
  · exact .refl s
  · exact .refl s
  · exact .refl s
  · exact ⟨_, _, _, rfl⟩
  · exact (BayWork.mapBay ..).trans (.priorityChanged ..)
  · split
    · exact (BayWork.mapBay ..).trans (.priorityChanged ..)
    · exact (BayWork.mapBay ..).trans (.actOnAim ..)

theorem BayWork.aimAll (target : Intent) (level : Fin 4) : ∀ (bs : List BayId) (s : State),
    BayWork s (Machine.aimAll target level bs s).2
  | [], s => .refl s
  | b :: bs, s => (BayWork.aimBay s b target level).trans (BayWork.aimAll target level bs _)

theorem BayWork.clearBay (s : State) (b : BayId) : BayWork s (s.clearBay b).2 := by
  unfold State.clearBay; split
  · exact .toStopped ..
  · exact .refl s

theorem BayWork.clearAll : ∀ (bs : List BayId) (s : State), BayWork s (Machine.clearAll bs s).2
  | [], s => .refl s
  | b :: bs, s => (BayWork.clearBay s b).trans (BayWork.clearAll bs _)

/-- One outcome for each bay aimed. -/
theorem aimAll_length (target : Intent) (level : Fin 4) : ∀ (bs : List BayId) (s : State),
    (aimAll target level bs s).1.length = bs.length
  | [], _ => rfl
  | _ :: bs, _ => congrArg (· + 1) (aimAll_length target level bs _)

/-- One outcome for each bay cleared. -/
theorem clearAll_length : ∀ (bs : List BayId) (s : State), (clearAll bs s).1.length = bs.length
  | [], _ => rfl
  | _ :: bs, _ => congrArg (· + 1) (clearAll_length bs _)

/-! ## Every request -/

/-- Carrying out a request leaves time, reset, the link, the pins and the queue. -/
theorem WorkFrame.carryOut (r : Request) (s : State) : WorkFrame s (carryOut r s).2 := by
  cases r with
  | ident => exact .refl s
  | restart => exact .refl s
  | baySetup bay d =>
    simp only [Machine.carryOut, workBaySetup]
    split
    · exact .refl s
    · split
      · exact (WorkFrame.of_bay ((BayWork.mapBay ..).trans (.applyAccess ..))).trans (.of_policy (.policyTable ..))
      · exact .refl s
  | bayAim bays target priority =>
    simp only [Machine.carryOut, workBayAim]; split
    · exact .refl s
    · exact .of_bay (.aimAll ..)
  | bayClear bays =>
    simp only [Machine.carryOut, workBayClear]; split
    · exact .refl s
    · exact .of_bay (.clearAll ..)
  | bayQuery bay => simp only [Machine.carryOut, workBayQuery]; split <;> exact .refl s
  | bayDescribe bay => simp only [Machine.carryOut, workBayDescribe]; split <;> exact .refl s
  | motionSetup r => exact .of_motion (.motionSetup ..)
  | motionQuery => exact .refl s
  | trace back count stride => exact .refl s
  | episodes first count => exact .refl s
  | powerSetup r =>
    have h : WorkFrame s ((s.setArbiter (s.arbiter.withSettings r)).setSupply (s.supply.withSettings r)) :=
      ⟨rfl, rfl, rfl, rfl, rfl, rfl⟩
    exact h.trans (.of_bay (.evaluate _))
  | powerQuery =>
    simp only [Machine.carryOut, workPowerQuery]; split
    · exact .drawFree s
    · exact .refl s
  | caseSetup r => exact .of_policy (.caseSetup ..)
  | caseQuery => exact .refl s
  | noticeMask mask => exact .setNotices ..
  | noticeFetch =>
    simp only [Machine.carryOut, workNoticeFetch]; split
    · exact .refl s
    · exact .setNotices ..
  | noticeStatus => exact .refl s
  | faultRead =>
    simp only [Machine.carryOut, workFaultRead]; split
    · exact .refl s
    · exact .setFaults ..

end Sys2Proof.Machine
end

