-- ==== Sys2Proof/Laws/Supply.lean ====
section
/-! SUPPORT. One sample of the Supply Monitor, field by field. -/

namespace Sys2Proof.Machine

variable (m : Supply) (now : Clock) (rail : Int) (src : Bool)

theorem railReading_le : railReading rail ≤ 1600 := by simp only [railReading]; omega

theorem railReading_eq : railReading rail = if rail < 0 then 0 else if 1600 < rail then 1600 else rail.toNat := by
  simp only [railReading]; split
  · omega
  · split <;> omega

/-- The state is taken from the dwell counts and the reading after the update (R157). -/
theorem withState_state : (m.withState now).state = m.nextState := by
  unfold Supply.withState; split
  · exact Eq.symm ‹_›
  · rfl

theorem withState_entryTime : (m.withState now).entryTime = if m.nextState = m.state then m.entryTime else now := by
  unfold Supply.withState; split <;> rfl

@[simp] theorem withState_reading : (m.withState now).reading = m.reading := by
  unfold Supply.withState; split <;> rfl
@[simp] theorem withState_warnIndex : (m.withState now).warnIndex = m.warnIndex := by
  unfold Supply.withState; split <;> rfl
@[simp] theorem withState_cutoffIndex : (m.withState now).cutoffIndex = m.cutoffIndex := by
  unfold Supply.withState; split <;> rfl
@[simp] theorem withState_warnDwell : (m.withState now).warnDwell = m.warnDwell := by
  unfold Supply.withState; split <;> rfl
@[simp] theorem withState_cutoffDwell : (m.withState now).cutoffDwell = m.cutoffDwell := by
  unfold Supply.withState; split <;> rfl
@[simp] theorem withState_source : (m.withState now).source = m.source := by
  unfold Supply.withState; split <;> rfl
@[simp] theorem withState_agree : (m.withState now).agree = m.agree := by
  unfold Supply.withState; split <;> rfl

/-- The source changes at the third sample that differs (R160). -/
theorem withSource_source :
    (m.withSource src).source =
      if sourceOf src = m.source then m.source else if m.agree < 2 then m.source else sourceOf src := by
  unfold Supply.withSource; (repeat' split) <;> rfl

theorem withSource_agree :
    (m.withSource src).agree = if sourceOf src = m.source then 0 else if m.agree < 2 then m.agree + 1 else 0 := by
  unfold Supply.withSource; (repeat' split) <;> rfl

@[simp] theorem withSource_reading : (m.withSource src).reading = m.reading := by
  unfold Supply.withSource; (repeat' split) <;> rfl
@[simp] theorem withSource_warnIndex : (m.withSource src).warnIndex = m.warnIndex := by
  unfold Supply.withSource; (repeat' split) <;> rfl
@[simp] theorem withSource_cutoffIndex : (m.withSource src).cutoffIndex = m.cutoffIndex := by
  unfold Supply.withSource; (repeat' split) <;> rfl
@[simp] theorem withSource_warnDwell : (m.withSource src).warnDwell = m.warnDwell := by
  unfold Supply.withSource; (repeat' split) <;> rfl
@[simp] theorem withSource_cutoffDwell : (m.withSource src).cutoffDwell = m.cutoffDwell := by
  unfold Supply.withSource; (repeat' split) <;> rfl
@[simp] theorem withSource_state : (m.withSource src).state = m.state := by
  unfold Supply.withSource; (repeat' split) <;> rfl
@[simp] theorem withSource_entryTime : (m.withSource src).entryTime = m.entryTime := by
  unfold Supply.withSource; (repeat' split) <;> rfl

@[simp] theorem sampled_reading : (m.sampled now rail src).reading = railReading rail := by
  simp [Supply.sampled, Supply.withReading]
@[simp] theorem sampled_warnIndex : (m.sampled now rail src).warnIndex = m.warnIndex := by
  simp [Supply.sampled, Supply.withReading]
@[simp] theorem sampled_cutoffIndex : (m.sampled now rail src).cutoffIndex = m.cutoffIndex := by
  simp [Supply.sampled, Supply.withReading]

theorem sampled_warnDwell :
    (m.sampled now rail src).warnDwell =
      if railReading rail < m.warnLevel then min 10 (m.warnDwell + 1) else 0 := by
  simp [Supply.sampled, Supply.withReading]

theorem sampled_cutoffDwell :
    (m.sampled now rail src).cutoffDwell =
      if railReading rail < m.cutoffLevel then min 3 (m.cutoffDwell + 1) else 0 := by
  simp [Supply.sampled, Supply.withReading]

theorem sampled_state : (m.sampled now rail src).state = (m.withReading (railReading rail)).nextState := by
  simp [Supply.sampled, withState_state]

theorem sampled_entryTime :
    (m.sampled now rail src).entryTime =
      if (m.sampled now rail src).state = m.state then m.entryTime else now := by
  rw [sampled_state]
  simp only [Supply.sampled, withSource_entryTime, withState_entryTime]
  rfl

theorem sampled_source :
    (m.sampled now rail src).source =
      if sourceOf src = m.source then m.source else if m.agree < 2 then m.source else sourceOf src := by
  simp [Supply.sampled, withSource_source, Supply.withReading]

theorem sampled_agree :
    (m.sampled now rail src).agree = if sourceOf src = m.source then 0 else if m.agree < 2 then m.agree + 1 else 0 := by
  simp [Supply.sampled, withSource_agree, Supply.withReading]

end Sys2Proof.Machine
end

