-- ==== Sys2Proof/WellFormed.lean ====
section
/-! DEFINITION. Which commands are well formed: the operand values that the rules allow an event of the part to
carry. Requests and characters carry any bytes: what is out of range there is brought into range or answered. -/

namespace Sys2Proof

/-- The bytes of a notice payload that the layout of its key lists; the others are 0 (R196). -/
def NoticePayload.fits (p : NoticePayload) : Key → Bool
  | .bay _ => p.b2 == 0 && p.b3 == 0
  | .shock => true
  | .freefall => p.b2 == 0 && p.b3 == 0
  | .fault => p.b2 == 0 && p.b3 == 0
  | .supply => true
  | .supervision => p.b0 == 0 && p.b1 == 0 && p.b2 == 0 && p.b3 == 0
  | .sensor => p.b1 == 0 && p.b2 == 0 && p.b3 == 0
  | .motion => p.b3 == 0
  | .tilt => p.b1 == 0 && p.b2 == 0 && p.b3 == 0
  | .episode => true
  | .input => p.b2 == 0 && p.b3 == 0

/-- The bay states in which a fault of each reason is found (R18). -/
def BayReason.foundIn : BayReason → BayState → Bool
  | .spinupTimeout, st => st == .ramping
  | .settleTimeout, st => st == .settling
  | .speedLost, st => st == .spinning || st == .loading || st == .flying || st == .unloading
  | .loadTimeout, st => st == .loading
  | .stranded, st => st == .unloading
  | .stopTimeout, st => st == .stopping
  | .unexpectedPark, st => st == .flying
  | .unseated, st => st == .ramping || st == .settling || st == .spinning || st == .loading || st == .flying ||
      st == .unloading || st == .stopping

/-- A capture is one that a block hands: found where R18 says, with a 16-bit tach period (R35). -/
def Capture.fits : Capture → Bool
  | .bay _ reason found _ tach _ => reason.foundIn found && decide (tach < 65536)
  | .sensorLost _ => true
  | .supplyCritical _ => true

/-- A command is well formed when its operands are values that its event can carry. -/
def Instr.wellFormed : Instr → Bool
  | .tachEdge _ us => decide (us < 1000)
  | .motionVerdictHandoff cls tilt quiet => cls.isSome || tilt.isSome || quiet.isSome
  | .supplyStateReport st => st != .none
  | .faultCapture c => c.fits
  | .noticePost k _ p => p.fits k
  | .ident | .restart | .baySetup _ _ | .bayAim _ _ _ | .bayClear _ | .bayQuery _ | .bayDescribe _ | .motionSetup _
  | .motionQuery | .trace _ _ _ | .episodes _ _ | .powerSetup _ | .powerQuery | .caseSetup _ | .caseQuery
  | .noticeMask _ | .noticeFetch | .noticeStatus | .faultRead | .characterReception _ _ | .gapError | .endOfReply
  | .powerOn | .brownout | .pinReset | .resetRelease | .startUpIntervalEnd | .unseat _ | .reseat _ | .prkRelease _
  | .prkAssertion _ | .unloadGuardExpiry _ | .unloadCompletion _ | .rampStep _ | .spinupTimeout _
  | .settleTimeout _ | .silenceTimerExpiry _ | .tachQuiet _ | .stopTimeout _ | .loadTimeout _ | .unloadTimeout _
  | .forcedUnloadOrder _ | .stopOrder _ | .stopOrderLift _ | .loadPermissionReport _ _ | .spinGateReport _
  | .sourceReport _ | .spacingTimerExpiry | .drdyEdge | .identityReadComplete _ | .setupWindowExpiry
  | .retryTimerExpiry | .drdyWatchExpiry | .sampleArrival _ _ _ | .quietTimerExpiry | .quietRestartRequest
  | .unloadReport _ | .strandingReport _ | .caseInputAssertion _ | .caseInputRelease _ | .supervisionLapse
  | .supplySample _ _ | .pwmPeriodBoundary _ => true

end Sys2Proof
end

