-- ==== Sys2Proof/Tests/Slice0.lean ====
section
/-! SUPPORT. The model's own tests: each command on one small state, with results taken from the manual's worked
figures and tables (its chapter is named at each test); ill-formed commands that are refused; and for each statement
with hypotheses a state and operands that meet them. -/

namespace Sys2Proof.Tests

open Sys2Proof Sys2Proof.Machine

/-! ## Helpers -/

/-- The step answers a next state with a property. -/
def after (o : Host.Outcome State Fault Refusal) (p : State → Bool) : Bool :=
  match o with
  | .next t => p t
  | .fault _ => false
  | .refused _ => false

/-- The part in operation at Case Clock `now`, all else as after a full reset. -/
def opAt (now : Clock) : State := { State.reset with phase := .operating, clock := now }

/-- The part in operation at Case Clock 1000. -/
def on : State := opAt 1000

/-- A seated bay of access FULL in a state. -/
def bayIn (st : BayState) : Bay :=
  { Bay.reset with desc := { Descriptor.default with access := .full }, state := st, seated := true }

/-- The part in operation with one bay's record in bay 0. -/
def at0 (x : Bay) : State := on.setBay 0 x

/-- A bay in a state, in bay 0. -/
def bay0 (st : BayState) : State := at0 (bayIn st)

/-- The bytes of the reply on TXD, from KIND to the last payload byte. -/
def replyOf (t : State) : List Byte :=
  match t.link.tx with
  | .sending f _ => (f.drop 2).dropLast
  | .idle => []

/-- The whole frame on TXD. -/
def frameOf (t : State) : List Byte :=
  match t.link.tx with
  | .sending f _ => f
  | .idle => []

/-- The part while it sends a reply. -/
def sendingNow : State := on.setLink { Link.reset with tx := .sending [] false }

/-- The post of a BAY notice of bay `b` without a reason. -/
def bayPost (b : BayId) (now : Clock) (code : Byte) : Instr :=
  .noticePost (.bay b) now { b0 := code, b1 := 0, b2 := 0, b3 := 0 }

/-! ## Ill-formed commands are refused -/

theorem test_wf_tach_edge : (Instr.tachEdge 0 1000).wellFormed = false ∧ (Instr.tachEdge 0 999).wellFormed = true := by
  decide

theorem test_wf_verdict_of_no_change : (Instr.motionVerdictHandoff none none none).wellFormed = false ∧
    (Instr.motionVerdictHandoff none none (some true)).wellFormed = true := by decide

theorem test_wf_supply_none : (Instr.supplyStateReport .none).wellFormed = false ∧
    (Instr.supplyStateReport .low).wellFormed = true := by decide

theorem test_wf_capture_found : (Instr.faultCapture (.bay 0 .speedLost .ramping 0 0 true)).wellFormed = false ∧
    (Instr.faultCapture (.bay 0 .speedLost .flying 0 0 true)).wellFormed = true := by decide

theorem test_wf_notice_payload :
    (Instr.noticePost .tilt 0 { b0 := 1, b1 := 1, b2 := 0, b3 := 0 }).wellFormed = false ∧
    (Instr.noticePost .tilt 0 { b0 := 1, b1 := 0, b2 := 0, b3 := 0 }).wellFormed = true := by decide

/-! ## Bytes on the line (09) -/

/-- R169: an IDENT request is SYNC, 1, 1, 254. -/
theorem test_ident_frame : Request.frame .ident = [0xA5, 1, 1, 254] := by decide

/-- 09, one aim on the wire: the request. -/
theorem test_aim_frame : Request.frame (.bayAim 66 2 2) = [0xA5, 5, 17, 66, 0, 2, 2, 164] := by decide

/-- 09, one aim on the wire: the bytes are read as that aim. -/
theorem test_aim_bytes_read : judge 17 [66, 0, 2, 2] = .request (.bayAim 66 2 2) := by decide

/-- R174: a known KIND with a payload of another size, and an unknown KIND. -/
theorem test_sizes_and_kinds : judge 17 [66, 0, 2] = .badSize ∧ judge 3 [] = .unknownKind := by decide

/-! ## Requests -/

/-- 11.2 at 400: IDENT with cause POWER_ON and Case Clock 400; codes of R186. -/
theorem test_ident :
    after (exec .ident (opAt 400)) (fun t =>
      replyOf t == [0x81, 0, 0, 0x19, 0x0B, 0xC4, 0x0B, 1, 12, 0, 0x90, 1, 0, 0]) = true := by decide

/-- R187: the reply comes first; the transmitter marks it. -/
theorem test_restart :
    after (exec .restart on) (fun t => t.link.tx == .sending [0xA5, 3, 0x82, 0, 0, 0x7B] true) = true := by decide

/-- 11.2 at 420: a BAY_SETUP takes a VACANT bay to STOPPED and posts its notice. -/
theorem test_bay_setup_of_vacant_bay :
    after (exec (.baySetup 3 { Descriptor.default with access := .full }.toRaw) (opAt 420)) (fun t =>
      (t.bay 3).state == .stopped && (t.bay 3).desc.access == .full && t.inFlight == [bayPost 3 420 1]) = true := by
  decide

/-- R1: peak draw 0 and run draw 20 are stored as 1 and 1, and the reply says CLAMPED. -/
theorem test_bay_setup_clamps :
    after (exec (.baySetup 3 { Descriptor.default.toRaw with peakDraw := 0, runDraw := 20 }) on) (fun t =>
      (t.bay 3).desc.peakDraw == 1 && (t.bay 3).desc.runDraw == 1 &&
        (replyOf t).take 8 == [0x90, 0, 16, 3, 0, 0, 1, 1]) = true := by decide

/-- The seven bays of the example of 01, one aim to a mixed set. -/
def mixed : State :=
  let spinOnly (x : Bay) : Bay := { x with desc := { x.desc with access := .spinOnly } }
  (((((on.setBay 1 (bayIn .stopped)).setBay 2 { bayIn .stopped with seated := false }).setBay 3
    { spinOnly (bayIn .spinning) with intent := .spin }).setBay 4 { bayIn .faulted with reason := some .speedLost }).setBay
      5 (bayIn .stopping)).setBay 6 { bayIn .queued with intent := .spin, priority := 1 }
  |>.setArbiter { Arbiter.reset with queue := [6] }

/-- 01, one aim to a mixed set: outcomes, states, intents, and bay 1 behind bay 6 in the queue. -/
theorem test_aim_mixed_set :
    after (exec (.bayAim 127 2 2) mixed) (fun t =>
      replyOf t == [0x91, 0, 0, 127, 0, 2, 0, 3, 5, 4, 0, 0] && t.arbiter.queue == [6, 1] &&
      bayIds.map (fun b => (t.bay b).state) == [.vacant, .queued, .stopped, .spinning, .faulted, .stopping, .queued,
        .vacant, .vacant, .vacant, .vacant, .vacant] &&
      bayIds.map (fun b => (t.bay b).intent) == [.off, .fly, .fly, .spin, .off, .fly, .fly, .off, .off, .off, .off,
        .off]) = true := by decide

/-- 09, one aim on the wire: the reply, ATTN set by a notice that was queued before. -/
theorem test_aim_reply_frame :
    after (exec (.bayAim 66 2 2)
      (((on.setBay 1 (bayIn .stopped)).setBay 6 (bayIn .stopped)).setNotices
        { Notices.reset with queue := [{ key := .tilt, count := 1, time := 0, payload := payloadOf 0 0 }] }))
      (fun t => frameOf t == [0xA5, 7, 145, 0, 1, 66, 0, 0, 0, 37]) = true := by decide

/-- R21: a clear acts on FAULTED bays alone; R192: its reply. -/
theorem test_bay_clear :
    after (exec (.bayClear 3)
      ((on.setBay 0 { bayIn .faulted with reason := some .unseated }).setBay 1 (bayIn .spinning))) (fun t =>
      replyOf t == [0x92, 0, 0, 3, 0, 0, 1] && (t.bay 0).state == .stopped && (t.bay 0).reason == none &&
      (t.bay 1).state == .spinning) = true := by decide

/-- R26, R192: a STOPPED bay, not seated, intent FLY shows NOT_SEATED; 250 ms in its state. -/
theorem test_bay_query :
    after (exec (.bayQuery 2)
      (on.setBay 2 { bayIn .stopped with seated := false, intent := .fly, priority := 2, entryTime := 750 })) (fun t =>
      replyOf t == [0x93, 0, 0, 2, 1, 2, 2, 2, 16, 0, 0, 0, 0, 0, 0, 32, 250, 0, 0, 0]) = true := by decide

/-- 1.2, R192: the default descriptor; 720 is 2 × 256 + 208. -/
theorem test_bay_describe :
    after (exec (.bayDescribe 11) on) (fun t =>
      replyOf t == [0x94, 0, 0, 11, 0, 0, 40, 14, 208, 2, 2, 8, 16, 16, 20, 15, 50, 30, 30]) = true := by decide

/-- A ring with the activities of 05, arrivals 1 to 10, newest first. -/
def tenArrivals : List Sample :=
  ([10, 30, 14, 8, 11, 20, 15, 9, 12, 0] : List Nat).map fun a => { number := 0, x := 0, y := 0, z := 0, activity := a }

/-- The Motion Unit of 05, growing the window: window 8, primed, S 117. -/
def grown : Motion :=
  { Motion.reset with
    sensor := .running, ring := tenArrivals, runLength := 10, sum := 117, level := 14, priming := 8, primed := true,
    cls := .still, settings := { MotionSettings.default with windowExponent := 3 } }

/-- 05, growing the window from 8 to 16: S 129, priming 0, UNPRIMED. -/
theorem test_motion_setup_grows_window :
    after (exec (.motionSetup { MotionSettings.default.toRaw with windowExponent := 4 }) (on.setMotion grown)) (fun t =>
      t.motion.sum == 129 && t.motion.priming == 0 && !t.motion.primed && t.motion.cls == .unprimed &&
      t.motion.runLength == 10) = true := by decide

/-- R127: 20, 30, 25 become 20, 19 and rough-on 40; 4090, 4095, 12 become roll-on 4082. -/
theorem test_threshold_order :
    orderThresholds 20 30 25 = (20, 40, 19) ∧ orderThresholds 4090 4095 12 = (4082, 4095, 12) := by decide

/-- R129, R194: rounded gravity 0, −1, 257 of the estimate of 05; no episode; W 8; quiet timer unset. -/
theorem test_motion_query :
    after (exec .motionQuery (on.setMotion { grown with gx := 80, gy := -150, gz := 65687 })) (fun t =>
      (replyOf t).take 28 == [0xA1, 0, 0, 21, 8, 8, 117, 0, 0, 14, 0, 0, 0, 255, 255, 1, 1, 0, 255, 255, 1, 0, 0, 0, 0,
        0, 10, 7]) = true := by decide

/-- R107: an empty ring gives no entry and CLAMPED for the count, written 1 or 0; a stride of 1 in bits 4 to 7. -/
theorem test_trace_of_empty_ring :
    after (exec (.trace 0 1 1) on) (fun t => replyOf t == [0xA2, 0, 16, 0, 0, 0, 0, 16]) &&
    after (exec (.trace 0 0 1) on) (fun t => replyOf t == [0xA2, 0, 16, 0, 0, 0, 0, 16]) = true := by decide

/-- 5.8, reading the ring: the rows of 64 entries but for the one with stride 10 (log entry 28), and the one of 20. -/
theorem test_trace_fields :
    (traceFields 64 60 3 8, traceChanged 64 60 3 8, traceOffsets 64 60 3 8) = ((60, 3, 8), false, [60, 4, 12]) ∧
    (traceFields 64 0 9 0, traceChanged 64 0 9 0, traceOffsets 64 0 6 1) = ((0, 6, 1), true, [0, 1, 2, 3, 4, 5]) ∧
    (traceFields 20 30 6 8, traceChanged 20 30 6 8, traceOffsets 20 19 6 8) =
      ((19, 6, 8), true, [19, 7, 15, 3, 11, 19]) := by decide

/-- An episode with a sequence and a duration, as the example of 6.5 has them. -/
def episodeNo (n : Half) (d : Option Clock) : Episode :=
  { sequence := n, start := 0, shock := true, freefall := false, peak := 400, duration := d, unloaded := 0,
    stranded := 0 }

/-- 6.5: five records, 16 (open) to 12; first 3, count 4 is used as first 3, count 2 with CLAMPED: 13 and 12. -/
theorem test_episodes_example :
    after (exec (.episodes 3 4) (on.setMotion
      { Motion.reset with
        sequence := 16
        episodes := [episodeNo 16 none, episodeNo 15 (some 1), episodeNo 14 (some 1), episodeNo 13 (some 1),
          episodeNo 12 (some 1)] })) (fun t =>
      replyOf t == [0xA3, 0, 16, 5 + 16 * 3, 16, 0] ++ [13, 0, 0, 0, 0, 0, 144, 17, 1, 0, 0, 0, 0, 0] ++
        [12, 0, 0, 0, 0, 0, 144, 17, 1, 0, 0, 0, 0, 0]) = true := by decide

/-- R126: an empty list and a count of 0, taken as 1 and then as 0: CLAMPED. -/
theorem test_episodes_of_empty_list :
    after (exec (.episodes 0 0) on) (fun t => replyOf t == [0xA3, 0, 16, 0, 0, 0]) = true := by decide

/-- 11.2 at 410: mains budget 200 stored; on MAINS it is B. -/
theorem test_power_setup :
    after (exec (.powerSetup { mode := 0, spacing := 50, mainsBudget := 200, batteryBudget := 80, warnIndex := 8, cutoffIndex := 10 })
      (on.setArbiter { Arbiter.reset with source := .mains })) (fun t =>
      t.arbiter.budget == 200 && replyOf t == [0xB0, 0, 0, 0, 50, 200, 80, 8, 10]) = true := by decide

/-- 4.9: a mode above ROTATE is ROTATE; R161: a changed warn index empties its dwell count. -/
theorem test_power_setup_clamps :
    after (exec (.powerSetup { mode := 9, spacing := 0, mainsBudget := 0, batteryBudget := 80, warnIndex := 15, cutoffIndex := 10 })
      (on.setSupply { Supply.reset with state := .low, warnDwell := 10, cutoffDwell := 2 })) (fun t =>
      t.arbiter.mode == .rotate && t.arbiter.mainsBudget == 1 && t.supply.warnDwell == 0 && t.supply.cutoffDwell == 2 &&
      replyOf t == [0xB0, 0, 16, 1, 0, 1, 80, 15, 10]) = true := by decide

/-- 4.10, R193: settings, B 50, C 156 over budget and no candidate, as at 3700 of the worked grant sequence. -/
theorem test_power_query :
    after (exec .powerQuery (on.setArbiter
      { Arbiter.reset with
        batteryBudget := 50, gateOpen := true, charges := #v[14, 14, 14, 40, 0, 14, 0, 60, 0, 0, 0, 0] })) (fun t =>
      ((replyOf t).drop 4).take 9 == [50, 160, 50, 50, 156, 0, 0, 0, 255] && t.drawn == 1) = true := by decide

/-- R86, R193: 0 when idle; 1 to 2550 while it runs, the expiry reached and not yet taken among it. -/
theorem test_spacing_remaining :
    spacingRemaining 1000 .idle = 0 ∧ spacingRemaining 1000 (.running 3550) = 2550 ∧
    spacingRemaining 999 (.running 1000) = 1 ∧ spacingRemaining 1000 (.running 1000) = 1 := by decide

/-- 11.2 at 414: CASE_SETUP makes supervision ACTIVE with expiry 3414. -/
theorem test_case_setup :
    after (exec (.caseSetup { handleMode := 2, lidMode := 1, period := 30, action := 1 }) (opAt 414)) (fun t =>
      t.policy.supervision == .active 3414 && t.policy.handleMode == .edge && t.policy.lidMode == .level &&
      t.policy.action == .stop && replyOf t == [0xC0, 0, 0, 2, 1, 30, 1]) = true := by decide

/-- R151, R196 after a full reset: supply seen LOW; causes UNPRIMED (1) and quiet RUNNING (4). -/
theorem test_case_query :
    after (exec .caseQuery on) (fun t =>
      replyOf t == [0xC1, 0, 0, 0, 0, 0, 255, 255, 32, 5, 0, 0, 0, 0]) = true := by decide

/-- R204: bits 11 to 15 are ignored; what is stored is echoed. -/
theorem test_notice_mask :
    after (exec (.noticeMask 0xFFFF) on) (fun t => t.notices.mask == 0x7FF && replyOf t == [0xD0, 0, 0, 0xFF, 7]) = true := by
  decide

/-- The SUPPLY entry of 11.2: count 2, NORMAL, MAINS, 1230 (4 × 256 + 206), last posted at 253. -/
def supplyEntry : Notice :=
  { key := .supply, count := 2, time := 253, payload := { b0 := 1, b1 := 1, b2 := 206, b3 := 4 } }

/-- 11.2 at 402: the head entry is returned and removed; the reply's ATTN is clear. -/
theorem test_notice_fetch :
    after (exec .noticeFetch ((opAt 402).setNotices { Notices.reset with queue := [supplyEntry] })) (fun t =>
      replyOf t == [0xD1, 0, 0, 15, 1, 2, 253, 0, 0, 0, 1, 1, 206, 4] && !t.attnLow) = true := by decide

/-- R201: unmasked urgent keys enter first, then the lowest key; 11.2: BAY 8 before BAY 9. -/
theorem test_fetch_fills_by_urgency :
    let bay (n : BayId) : Notice := { key := .bay n, count := 1, time := 0, payload := payloadOf 1 0 }
    after (exec .noticeFetch (on.setNotices
      { Notices.reset with queue := bayIds.take 8 |>.map bay, pending := [bay 8, bay 9, supplyEntry] })) (fun t =>
      t.notices.queue.map (·.key) == [.supply, .bay 1, .bay 2, .bay 3, .bay 4, .bay 5, .bay 6, .bay 7] &&
      t.notices.pending.map (·.key) == [.bay 8, .bay 9]) = true := by decide

/-- R203: one queued, BAY 8 pending (bit 8 of the pending keys), mask BAY; ATTN set. -/
theorem test_notice_status :
    after (exec .noticeStatus (on.setNotices
      { queue := [supplyEntry], pending := [{ supplyEntry with key := .bay 8 }], mask := 1 })) (fun t =>
      replyOf t == [0xD2, 0, 1, 1, 0, 1, 0, 1, 0]) = true := by decide

/-- R209: SENSOR_LOST of 10010 (39 × 256 + 26) is read and released; FROZEN was clear when the flags were taken. -/
theorem test_fault_read :
    after (exec .faultRead (on.setFaults { record := some (.sensorLost 10010), more := true })) (fun t =>
      replyOf t == [0xE0, 0, 0, 1, 1, 9, 12, 255, 26, 39, 0, 0, 0, 0, 255] && t.faults == .reset) = true := by decide

/-! ## Link events -/

/-- R170: SYNC starts a frame and the gap timer. R174: the CHECK of an IDENT frame, 254, makes the item; 255 is a check
error with the KIND as its detail. -/
theorem test_characters_of_a_frame :
    let s := on.setLink { Link.reset with rx := .body 1 [1] 2, gap := .running 1003 }
    after (exec (.characterReception 0xA5 true) on) (fun t => t.link.rx == .length && t.link.gap == .running 1005) &&
    after (exec (.characterReception 254 true) s) (fun t => (replyOf t).take 3 == [0x81, 0, 0] && t.link.rx == .hunt) &&
    after (exec (.characterReception 255 true) s) (fun t => replyOf t == [0xFF, 1, 0, 1]) = true := by decide

/-- R167: a line held low gives one character of value 0 and then silence, until RXD is seen high. -/
theorem test_line_held_low :
    let low := { on with inputs := { Inputs.atReset with rxdHigh := false } }
    after (exec (.characterReception 0 false) low) (fun t => t.link.awaitHigh &&
      after (exec (.characterReception 0xA5 true) t) (fun u => u == t) &&
      !({ t with inputs := Inputs.atReset }.tick).link.awaitHigh &&
      after (exec (.characterReception 0xA5 true) { t with inputs := Inputs.atReset }) (fun u => u.link.rx == .length))
      = true := by decide

/-- R166: 0xA5 on the line is a low start bit, 1, 0, 1, 0, 0, 1, 0, 1 and a high stop bit; TXD shows it and its next
character, and is high past the end and at rest. -/
theorem test_serial_line :
    let levels := [false, true, false, true, false, false, true, false, true, true]
    let s := on.setLink { Link.reset with tx := .sending [0xA5, 1] false }
    characterLevels 0xA5 true = levels ∧ receptionOf levels = .characterReception 0xA5 true ∧
    (List.range 10).map s.txdHigh = levels ∧ (s.txdHigh 10, s.txdHigh 11, s.txdHigh 12, s.txdHigh 20) =
      (false, true, false, true) ∧ on.txdHigh 0 = true ∧ ({ s with phase := .held .pin }).txdHigh 0 = true := by decide

/-- R173: a gap error in LENGTH, detail 1. -/
theorem test_gap_error :
    after (exec .gapError (on.setLink { Link.reset with rx := .length, gap := .running 1000 })) (fun t =>
      replyOf t == [0xFF, 3, 0, 1] && t.link.rx == .hunt && t.link.gap == .idle) = true := by decide

/-- R175: the held item is dispatched at the end of the reply before it. -/
theorem test_end_of_reply :
    after (exec .endOfReply (on.setLink
      { Link.reset with tx := .sending [] false, held := some (.request .noticeStatus) })) (fun t =>
      t.link.held == none && (replyOf t).take 2 == [0xD2, 0]) = true := by decide

/-- R187: the warm restart empties notices and fault record and keeps the bays and the Case Clock. -/
theorem test_warm_restart :
    after (exec .endOfReply (((bay0 .flying).setLink
      { Link.reset with tx := .sending [] true, held := some (.request .ident), overrun := true }).setNotices
        { Notices.reset with queue := [supplyEntry], mask := 5 })) (fun t =>
      t.link == .reset && t.notices == .reset && t.cause == .restart && t.clock == 1000 && (t.bay 0).state == .flying)
      = true := by decide

/-! ## Resets -/

/-- R183: POWER_ON abandons everything; the queue of commands and the pins are the outside's. -/
theorem test_power_on :
    after (exec .powerOn { bay0 .flying with pending := [.ident] }) (fun t =>
      t.phase == .held .powerOn && t.bays == .replicate 12 .reset && t.pending == [.ident]) = true := by decide

/-- R165: a brownout during a POWER_ON hold leaves it POWER_ON. -/
theorem test_brownout :
    after (exec .brownout { on with phase := .held .powerOn }) (fun t => t.phase == .held .powerOn) &&
    after (exec .brownout on) (fun t => t.phase == .held .brownout) = true := by decide

/-- R183: RST# does not take over from a supply reset. -/
theorem test_pin_reset :
    after (exec .pinReset { on with phase := .held .brownout }) (fun t => t.phase == .held .brownout) &&
    after (exec .pinReset on) (fun t => t.phase == .held .pin) = true := by decide

/-- R183, R184: after a PIN reset the interval is 20 ms and the cause PIN. -/
theorem test_reset_release :
    after (exec .resetRelease { on with phase := .held .pin, clock := 0 }) (fun t =>
      t.phase == .startUp .pin 20 && t.cause == .pin && t.clock == 0) = true := by decide

/-- 11.2 at 250: operation begins and the set-up transfers start. -/
theorem test_start_up_interval_end :
    after (exec .startUpIntervalEnd { State.reset with clock := 250 }) (fun t =>
      t.phase == .operating && t.motion.sensor == .setup && t.motion.port == .settingUp &&
      t.motion.setupEntry == 250) = true := by decide

/-- 11.2 at 251: one tick of operation samples the rail. -/
theorem test_tick :
    after (step { opAt 250 with inputs := { Inputs.atReset with rail := 1230, srcHigh := true } }) (fun t =>
      t.clock == 251 && t.inFlight == [.supplySample 1230 true]) = true := by decide

/-- R48, R141: a first released sample of PRKn and a first low sample of HANDLE# make counts of 1; a second released
sample of PRKn hands on its release. R183: the tick to 250 hands on the end of the interval. -/
theorem test_tick_counts :
    let s := { on with inputs := { Inputs.atReset with prk := .replicate 12 false, handle := true } }
    (s.tick.bay 0).prkAgree = 1 ∧ s.tick.policy.handleCount = 1 ∧ Instr.prkRelease 0 ∉ s.tick.inFlight ∧
    Instr.prkRelease 0 ∈ ({ s.tick with inFlight := [] } : State).tick.inFlight ∧
    (State.reset.setClock 249).tick.inFlight = [.startUpIntervalEnd] := by decide

/-! ## Bay events -/

/-- R23, R45: the seat of a turning bay is lost: FAULTED, charge 0, capture before notice (R19). -/
theorem test_unseat :
    after (exec (.unseat 0) ((bay0 .spinning).setArbiter { Arbiter.reset with charges := putBay Arbiter.reset.charges 0 14 }))
      (fun t => (t.bay 0).state == .faulted && t.arbiter.committed == 0 &&
        t.inFlight == [.faultCapture (.bay 0 .unseated .spinning 1000 0 true),
          .noticePost (.bay 0) 1000 { b0 := 10, b1 := 8, b2 := 0, b3 := 0 }]) = true := by decide

/-- R24: a reseated STOPPED bay with intent FLY queues; the gate is closed, so it waits. -/
theorem test_reseat :
    after (exec (.reseat 0) (at0 { bayIn .stopped with seated := false, intent := .fly })) (fun t =>
      (t.bay 0).state == .queued && t.arbiter.queue == [0]) = true := by decide

/-- R52: the heads leave the ramp in LOADING. -/
theorem test_prk_release :
    after (exec (.prkRelease 0) (at0 { bayIn .loading with hld := true, loadTimer := .running 1400 })) (fun t =>
      (t.bay 0).state == .flying && (t.bay 0).touched && (t.bay 0).loadTimer == .idle && t.inFlight == [bayPost 0 1000 7])
      = true := by decide

/-- R60: a park that was not asked for, in FLYING. -/
theorem test_prk_assertion :
    after (exec (.prkAssertion 0) (at0 { bayIn .flying with prkLevel := false })) (fun t =>
      (t.bay 0).state == .unloading && !(t.bay 0).hld && (t.bay 0).mark == some { reason := .unexpectedPark, found := .flying } &&
      (t.bay 0).guard == .running 1002) = true := by decide

/-- R57: the guard passes 2 ms after the entry. -/
theorem test_unload_guard_expiry :
    after (exec (.unloadGuardExpiry 0) (at0 { bayIn .unloading with guard := .running 1000 })) (fun t =>
      (t.bay 0).guard == .passed) &&
    after (exec (.unloadGuardExpiry 0) (at0 { bayIn .unloading with guard := .running 1001 })) (fun t =>
      (t.bay 0).guard == .running 1001) = true := by decide

/-- 07 at 43003: a clean unload ends in SPINNING; R20: with a stop mark it ends in STOPPING. -/
theorem test_unload_completion :
    let x := { bayIn .unloading with guard := .passed, intent := .fly, unloadTimer := .running 1300 }
    after (exec (.unloadCompletion 0) (at0 x)) (fun t =>
      (t.bay 0).state == .spinning && t.inFlight == [bayPost 0 1000 5]) &&
    after (exec (.unloadCompletion 0) (at0 { x with stopMark := true })) (fun t => (t.bay 0).state == .stopping)
      = true := by decide

/-- 02, settling with one excursion, at 3414: a period of 4301 µs is outside 4037..4297. -/
theorem test_tach_edge_out_of_band :
    after (exec (.tachEdge 4 301) ((opAt 3414).setBay 4
      { bayIn .settling with inBand := 3, edgeRef := some { ms := 3410, us := 0 } })) (fun t =>
      (t.bay 4).lastTach == 4301 && (t.bay 4).inBand == 0 && (t.bay 4).state == .settling) = true := by decide

/-- 02, the same, at 3502: the 16th period in band; SPINNING, the charge falls from 40 to 14. -/
theorem test_tach_edge_proves_speed :
    after (exec (.tachEdge 4 170) (((opAt 3502).setBay 4
      { bayIn .settling with inBand := 15, edgeRef := some { ms := 3498, us := 0 }, settleTimer := .running 6410 }).setArbiter
        { Arbiter.reset with charges := putBay Arbiter.reset.charges 4 40 })) (fun t =>
      (t.bay 4).state == .spinning && (t.bay 4).inBand == 16 && (t.bay 4).settleTimer == .idle &&
      t.arbiter.committed == 14 && t.inFlight == [bayPost 4 3502 5]) = true := by decide

/-- 2.5, worked figures: target period and half-widths. -/
theorem test_band_figures :
    let f (code ppr tol : Nat) : Nat × Nat × Nat :=
      let d := { Descriptor.default with speedCode := code, pulses := ppr, tolerance := tol }
      (d.target, d.halfWidth d.target, d.faultHalfWidth d.target)
    f 720 2 8 = (4167, 130, 260) ∧ f 1000 4 16 = (1500, 93, 187) ∧ f 300 1 32 = (20000, 2500, 5000) ∧
    f 1500 8 1 = (500, 1, 3) ∧ f 1500 8 8 = (500, 15, 31) := by decide

/-- R32: a step adds 1 and restarts the timer with the step time, 20 ms by default; at 64 the timer stays idle. -/
theorem test_ramp_step :
    after (exec (.rampStep 0) (at0 { bayIn .ramping with duty := 16, rampTimer := .running 1000 })) (fun t =>
      (t.bay 0).duty == 17 && (t.bay 0).rampTimer == .running 1020) &&
    after (exec (.rampStep 0) (at0 { bayIn .ramping with duty := 63, rampTimer := .running 1000 })) (fun t =>
      (t.bay 0).duty == 64 && (t.bay 0).rampTimer == .idle) = true := by decide

/-- R33: SPINUP_TIMEOUT, found in RAMPING; STOPPING with the stop timer at 30 s. -/
theorem test_spinup_timeout :
    after (exec (.spinupTimeout 0) (at0 { bayIn .ramping with spinupTimer := .running 1000 })) (fun t =>
      (t.bay 0).state == .stopping && (t.bay 0).mark == some { reason := .spinupTimeout, found := .ramping } &&
      (t.bay 0).stopTimer == .running 31000 && (t.bay 0).quietTimer == .running 1500) = true := by decide

/-- R38: SETTLE_TIMEOUT. -/
theorem test_settle_timeout :
    after (exec (.settleTimeout 0) (at0 { bayIn .settling with settleTimer := .running 1000, duty := 64 })) (fun t =>
      (t.bay 0).state == .stopping && (t.bay 0).duty == 0 &&
      (t.bay 0).mark == some { reason := .settleTimeout, found := .settling }) = true := by decide

/-- R40, R41: silence in FLYING finds speed lost: the heads unload first. -/
theorem test_silence_timer_expiry :
    after (exec (.silenceTimerExpiry 0) (at0 { bayIn .flying with silenceTimer := .running 1000 })) (fun t =>
      (t.bay 0).state == .unloading && !(t.bay 0).watchArmed &&
      (t.bay 0).mark == some { reason := .speedLost, found := .flying }) = true := by decide

/-- R16, R43: tach quiet of a clean bay that is wanted: STOPPED with its notice, and at once QUEUED. -/
theorem test_tach_quiet :
    after (exec (.tachQuiet 0) (at0 { bayIn .stopping with intent := .spin, quietTimer := .running 1000 })) (fun t =>
      (t.bay 0).state == .queued && t.arbiter.queue == [0] && t.inFlight == [bayPost 0 1000 1]) = true := by decide

/-- R44: the stop timer: FAULTED with STOP_TIMEOUT, whatever the mark. -/
theorem test_stop_timeout :
    after (exec (.stopTimeout 0) (at0
      { bayIn .stopping with stopTimer := .running 1000, mark := some { reason := .speedLost, found := .spinning } }))
      (fun t => (t.bay 0).state == .faulted && (t.bay 0).reason == some .stopTimeout && (t.bay 0).intent == .off) = true := by
  decide

/-- R53: LOAD_TIMEOUT unloads; the unload timer is 300 ms by default. -/
theorem test_load_timeout :
    after (exec (.loadTimeout 0) (at0 { bayIn .loading with hld := true, loadTimer := .running 1000 })) (fun t =>
      (t.bay 0).state == .unloading && !(t.bay 0).hld && (t.bay 0).unloadTimer == .running 1300 &&
      (t.bay 0).mark == some { reason := .loadTimeout, found := .loading }) = true := by decide

/-- R59: STRANDED replaces any mark, and is reported. -/
theorem test_unload_timeout :
    after (exec (.unloadTimeout 0) (at0
      { bayIn .unloading with
        unloadTimer := .running 1000, mark := some { reason := .speedLost, found := .flying }, prkLevel := false }))
      (fun t => (t.bay 0).state == .stopping && (t.bay 0).mark == some { reason := .stranded, found := .unloading } &&
        t.inFlight == [.strandingReport 0]) = true := by decide

/-- R58, R64: a forced unload carries no mark and is reported. -/
theorem test_forced_unload_order :
    after (exec (.forcedUnloadOrder 0) (bay0 .flying)) (fun t =>
      (t.bay 0).state == .unloading && (t.bay 0).mark == none && t.inFlight == [.unloadReport 0]) = true := by decide

/-- 07 at 90000: bay 7 RAMPING goes to STOPPING with the stop mark; bay 10 QUEUED stays. -/
theorem test_stop_order :
    after (exec (.stopOrder 7) (on.setBay 7 (bayIn .ramping))) (fun t =>
      (t.bay 7).state == .stopping && (t.bay 7).stopMark && (t.bay 7).mark == none) &&
    after (exec (.stopOrder 10) (on.setBay 10 (bayIn .queued))) (fun t =>
      (t.bay 10).state == .queued && !(t.bay 10).stopMark) = true := by decide

/-- 07 at 90400: the order is lifted, the mark of a bay still STOPPING is kept. -/
theorem test_stop_order_lift :
    after (exec (.stopOrderLift 7) (on.setBay 7 { bayIn .stopping with stopHeld := true, stopMark := true })) (fun t =>
      !(t.bay 7).stopHeld && (t.bay 7).stopMark) = true := by decide

/-- 07 at 216500: permission true takes a SPINNING bay with intent FLY to LOADING; the load timer is 500 ms. -/
theorem test_load_permission_report :
    after (exec (.loadPermissionReport 2 true) ((opAt 216500).setBay 2 { bayIn .spinning with intent := .fly })) (fun t =>
      (t.bay 2).state == .loading && (t.bay 2).hld && (t.bay 2).loadTimer == .running 217000) = true := by decide

/-- R30: at the end of the PWM period the pin takes the programmed duty. -/
theorem test_pwm_period_boundary :
    after (exec (.pwmPeriodBoundary 0) (at0 { bayIn .ramping with duty := 17, spwr := 16 })) (fun t =>
      t.spwrHigh 0 == 17) = true := by decide

/-! ## Arbiter events -/

/-- A seated bay in the queue with a priority and a peak draw. -/
def waiting (priority : Fin 4) (peak : Nat) : Bay :=
  { bayIn .queued with
    intent := .spin, priority := priority, desc := { Descriptor.default with access := .full, peakDraw := peak } }

/-- 4.12, the worked grant sequence: charges of bays 0 to 2, bays 3, 5 and 7 queued, gate open, source MAINS. -/
def grants (now : Clock) (charge0 charge5 : Nat) (queue : List BayId) (timer : Timer) : State :=
  ((((opAt now).setBay 3 (waiting 2 40)).setBay 5 (waiting 3 50)).setBay 7 (waiting 3 60)).setArbiter
    { Arbiter.reset with
      queue := queue, charges := #v[charge0, 14, 14, 0, 0, charge5, 0, 0, 0, 0, 0, 0], source := .mains,
      gateOpen := true, spacingTimer := timer }

/-- 4.12 at 500 and at 1000: bay 5 is granted, C 118; then bay 7 does not fit and nothing stands in for it. -/
theorem test_spacing_timer_expiry :
    after (exec .spacingTimerExpiry (grants 500 40 0 [3, 5, 7] (.running 500))) (fun t =>
      (t.bay 5).state == .ramping && t.arbiter.committed == 118 && t.arbiter.queue == [3, 7] &&
      t.arbiter.spacingTimer == .running 1000) &&
    after (exec .spacingTimerExpiry (grants 1000 40 50 [3, 7] (.running 1000))) (fun t =>
      t.arbiter.committed == 118 && t.arbiter.queue == [3, 7] && t.arbiter.spacingTimer == .idle) = true := by decide

/-- 4.12 at 2400: the fall of C by 26 lets bay 7 in: C 152. -/
theorem test_draw_report_grants :
    let t := (grants 2400 40 50 [3, 7] .idle).reportDraw 0 14
    (t.arbiter.committed, t.arbiter.queue, t.arbiter.spacingTimer) = (152, [3], .running 2900) := by decide

/-- R79: spacing 0, B 160, C 28: bays 1, 2, 3 are granted at once (C 148) and bay 6 waits. -/
theorem test_spin_gate_report :
    after (exec (.spinGateReport true)
      (((((on.setBay 1 (waiting 1 40)).setBay 2 (waiting 1 40)).setBay 3 (waiting 1 40)).setBay 6 (waiting 0 20)).setArbiter
        { Arbiter.reset with
          queue := [1, 2, 3, 6], charges := #v[14, 0, 0, 0, 14, 0, 0, 0, 0, 0, 0, 0], source := .mains, spacing := 0 }))
      (fun t => t.arbiter.committed == 148 && t.arbiter.queue == [6] && t.arbiter.spacingTimer == .idle) = true := by decide

/-- 4.5, ROTATE: pointer 6, bays 2, 5, 9 at level 2: bay 9 is granted and the pointer becomes 10. -/
theorem test_source_report :
    after (exec (.sourceReport .mains)
      ((((on.setBay 2 (waiting 2 40)).setBay 5 (waiting 2 40)).setBay 9 (waiting 2 40)).setArbiter
        { Arbiter.reset with
          queue := [2, 5, 9], mode := .rotate, pointers := #v[0, 0, 6, 0], gateOpen := true, batteryBudget := 39 }))
      (fun t => t.arbiter.budget == 160 && (t.bay 9).state == .ramping && t.arbiter.queue == [2, 5] &&
        t.arbiter.pointer 2 == 10) = true := by decide

/-! ## Motion events -/

/-- 5.3, loss and regain: the sensor LOST, retry to 10110. -/
def lost : Motion := { Motion.reset with sensor := .lost, firstSetup := false, retry := .running 10110 }

/-- 5.3 at 10113: an edge within the window: RUNNING, watch to 10123, SENSOR notice RUNNING, retry idle. -/
theorem test_drdy_edge :
    after (exec .drdyEdge ((opAt 10113).setMotion
      { lost with sensor := .setup, window := .running 10120, retry := .running 10210 })) (fun t =>
      t.motion.sensor == .running && t.motion.watch == .running 10123 && t.motion.retry == .idle &&
      t.inFlight == [.noticePost .sensor 10113 { b0 := 1, b1 := 0, b2 := 0, b3 := 0 }]) = true := by decide

/-- 5.3 at 10110: identity 77 opens the window to 10120; any other byte is a failure. -/
theorem test_identity_read_complete :
    let s := (opAt 10110).setMotion
      { lost with sensor := .setup, port := .settingUp, setupEntry := 10110, retry := .running 10210 }
    after (exec (.identityReadComplete 77) s) (fun t => t.motion.window == .running 10120) &&
    after (exec (.identityReadComplete 76) s) (fun t =>
      t.motion.sensor == .lost && t.motion.retry == .running 10210 && t.inFlight == []) = true := by decide

/-- R90: the first set-up after a full reset fails with a capture and the SENSOR notice. -/
theorem test_setup_window_expiry :
    after (exec .setupWindowExpiry ((opAt 260).setMotion { Motion.reset with window := .running 260, setupEntry := 250 }))
      (fun t => t.motion.sensor == .lost && t.motion.retry == .running 350 &&
        t.inFlight == [.faultCapture (.sensorLost 260), .noticePost .sensor 260 { b0 := 2, b1 := 0, b2 := 0, b3 := 0 }])
      = true := by decide

/-- 5.3 at 10110: the retry enters SETUP and runs to 10210. -/
theorem test_retry_timer_expiry :
    after (exec .retryTimerExpiry ((opAt 10110).setMotion lost)) (fun t =>
      t.motion.sensor == .setup && t.motion.retry == .running 10210 && t.motion.port == .settingUp) = true := by decide

/-- 5.3 at 10010: the sensor is lost; S, run length and priming are 0; the class becomes UNPRIMED. -/
theorem test_drdy_watch_expiry :
    after (exec .drdyWatchExpiry ((opAt 10010).setMotion { grown with watch := .running 10010 })) (fun t =>
      t.motion.sensor == .lost && t.motion.retry == .running 10110 && t.motion.sum == 0 && t.motion.runLength == 0 &&
      !t.motion.primed && t.motion.cls == .unprimed && t.motion.ring.length == 10) = true := by decide

/-- 5.2, R88: 176 is 1, 0, 1, 1, 0, 0, 0, 0 on SDO; the range write ends after 32 half bits, SCS# high; a sample read is
seven bytes, 112 half bits; and two received bytes of 15 and 255 are −241. -/
theorem test_spi_port :
    shiftedBits 176 = [true, false, true, true, false, false, false, false] ∧
    shiftedByte [true, false, true, true, false, false, false, false] = 176 ∧
    Port.settingUp.levels.getD 31 .rest = { scsHigh := false, sckHigh := true, sdo := some true } ∧
    Port.settingUp.levels.getD 32 .rest = .rest ∧ Port.reading.levels.length = 113 ∧
    (axisOfBytes 15 255).toInt = -241 := by decide

/-- A ring of `n` entries whose oldest has an activity. -/
def ringEnding (n oldest : Nat) : List Sample :=
  List.replicate (n - 1) { number := 0, x := 0, y := 0, z := 0, activity := 0 } ++
    [{ number := 0, x := 0, y := 0, z := 0, activity := oldest }]

/-- 5.5, one arrival worked through: (40, −25, 300) at k 7, window 8, tilt limit 226. -/
theorem test_sample_arrival :
    after (exec (.sampleArrival 40 (-25) 300) (on.setMotion
      { grown with
        port := .reading, ring := ringEnding 8 30, sum := 400, gx := 0, gy := -100, gz := 65600,
        settings := { MotionSettings.default with windowExponent := 3, tiltLimit := 226 } })) (fun t =>
      t.motion.gx == 80 && t.motion.gy == -150 && t.motion.gz == 65687 && t.motion.sum == 479 && t.motion.level == 59 &&
      t.motion.tilt == .level && t.motion.freefallRun == 0 && t.motion.cls == .rolling && t.motion.episodes == [])
      = true := by decide

/-- 6.4, a kerb hit at 100000: p 900, s 1500, s_old 30; episode 12, multiplier 3, expiry 104500, the notices. -/
theorem test_sample_arrival_kerb_hit :
    after (exec (.sampleArrival 900 300 556) ((opAt 100000).setMotion
      { grown with
        port := .reading, ring := ringEnding 32 30, runLength := 32, sum := 1000, level := 31, priming := 32,
        gz := 65536, quiet := .quiet, sequence := 11, settings := .default,
        episodes := [{ episodeNo 11 (some 1) with start := 62000 }] })) (fun t =>
      t.motion.sum == 2470 && t.motion.level == 77 && t.motion.cls == .rough && t.motion.multiplier == 3 &&
      t.motion.quiet == .running 104500 && t.motion.episodes.head?.map (fun e => (e.sequence, e.start, e.peak)) ==
        some (12, 100000, 900) &&
      t.inFlight == [.noticePost .shock 100000 (payloadOf 900 12),
        .noticePost .motion 100000 { b0 := 3, b1 := 77, b2 := 0, b3 := 0 },
        .motionVerdictHandoff (some .rough) none (some false)]) = true := by decide

/-- Episode 12 of the kerb hit, open from 100000. -/
def kerb : State :=
  (opAt 104503).setMotion
    { grown with
      quiet := .running 104503, sequence := 12,
      episodes := [{ episodeNo 12 none with start := 100000, peak := 900 }] }

/-- 6.4 at 104503: QUIET, duration 4503, the EPISODE notice (12, 4503). -/
theorem test_quiet_timer_expiry :
    after (exec .quietTimerExpiry kerb) (fun t =>
      t.motion.quiet == .quiet && t.motion.episodes.map (·.duration) == [some 4503] &&
      t.inFlight == [.noticePost .episode 104503 (payloadOf 12 4503), .motionVerdictHandoff none none (some true)])
      = true := by decide

/-- 07 at 215000: the restart is taken at ×1: 1500 ms, to 216500. -/
theorem test_quiet_restart_request :
    after (exec .quietRestartRequest ((opAt 215000).setMotion { grown with quiet := .quiet })) (fun t =>
      t.motion.quiet == .running 216500 && t.motion.multiplier == 1 &&
      t.inFlight == [.motionVerdictHandoff none none (some false)]) = true := by decide

/-- 6.4 at 100000: an unload report counts in the open episode; R124: a count at 255 stays. -/
theorem test_unload_report :
    after (exec (.unloadReport 3) kerb) (fun t => t.motion.episodes.map (·.unloaded) == [1]) &&
    after (exec (.unloadReport 3) (kerb.setMotion { kerb.motion with episodes := [{ episodeNo 12 none with unloaded := 255 }] }))
      (fun t => t.motion.episodes.map (·.unloaded) == [255]) = true := by decide

/-- R124: a stranding report counts in the open episode, and is dropped without one. -/
theorem test_stranding_report :
    after (exec (.strandingReport 3) kerb) (fun t => t.motion.episodes.map (·.stranded) == [1]) &&
    after (exec (.strandingReport 3) on) (fun t => t.motion.episodes == []) = true := by decide

/-! ## Policy events -/

/-- The policy with class STILL, QUIET, supply NORMAL, bays FULL, outputs computed; supervision to 43000. -/
def flyable : Policy :=
  { Policy.reset with
    classSeen := .still, quietSeen := true, supplySeen := .normal, period := 30, supervision := .active 43000,
    table := .replicate 12 { access := .full, motionLimit := .still } }.computed

/-- 6.4: ROUGH takes flight and load permission from every bay and closes the gate. -/
theorem test_motion_verdict_handoff :
    after (exec (.motionVerdictHandoff (some .rough) none (some false)) (on.setPolicy flyable)) (fun t =>
      t.policy.flightPermission == .replicate 12 false && t.policy.loadPermission == .replicate 12 false &&
      t.inFlight == bayIds.map (.loadPermissionReport · false) ++ bayIds.map .forcedUnloadOrder ++
        [.spinGateReport false]) = true := by decide

/-- 07 at 90000: CRITICAL closes everything and the stop order stands; LOW closes the gate alone. -/
theorem test_supply_state_report :
    after (exec (.supplyStateReport .critical) (on.setPolicy flyable)) (fun t =>
      t.policy.stopStanding && !t.policy.gateOpen && t.policy.flightPermission == .replicate 12 false) &&
    after (exec (.supplyStateReport .low) (on.setPolicy flyable)) (fun t => t.inFlight == [.spinGateReport false])
      = true := by decide

/-- R143: an EDGE assertion orders every bay to unload, restarts the quiet timer and posts INPUT (HANDLE, asserted). -/
theorem test_case_input_assertion_edge :
    after (exec (.caseInputAssertion .handle) (on.setPolicy { flyable with handleMode := .edge })) (fun t =>
      t.inFlight == bayIds.map .forcedUnloadOrder ++ [.quietRestartRequest] ++
        bayIds.map (.loadPermissionReport · false) ++
        [.noticePost .input 1000 { b0 := 0, b1 := 1, b2 := 0, b3 := 0 }] &&
      t.policy.flightPermission == .replicate 12 true) = true := by decide

/-- 07 at 200000: LID in LEVEL mode closes load and flight and leaves the quiet seen. -/
theorem test_case_input_assertion_level :
    after (exec (.caseInputAssertion .lid) ((opAt 200000).setPolicy { flyable with lidMode := .level })) (fun t =>
      t.policy.flightPermission == .replicate 12 false && t.policy.quietSeen && t.policy.gateOpen &&
      t.inFlight.getLast? == some (.noticePost .input 200000 { b0 := 1, b1 := 1, b2 := 0, b3 := 0 })) = true := by decide

/-- 07 at 215000: the release reopens flight, not load, and restarts the quiet timer. -/
theorem test_case_input_release :
    after (exec (.caseInputRelease .lid) ((opAt 215000).setPolicy { flyable with lidMode := .level, lidState := true }.computed))
      (fun t => t.policy.flightPermission == .replicate 12 true && t.policy.loadPermission == .replicate 12 false &&
        !t.policy.quietSeen && t.inFlight.take 2 ==
          [.noticePost .input 215000 { b0 := 1, b1 := 0, b2 := 0, b3 := 0 }, .quietRestartRequest]) = true := by decide

/-- 07 at 43000: the lapse with action PARK: permissions closed, gate open, no stop order, SUPERVISION posted. -/
theorem test_supervision_lapse :
    after (exec .supervisionLapse ((opAt 43000).setPolicy flyable)) (fun t =>
      t.policy.supervision == .lapsed && t.policy.flightPermission == .replicate 12 false && t.policy.gateOpen &&
      !t.policy.stopStanding && t.link.lapseSeen &&
      t.inFlight.head? == some (.noticePost .supervision 43000 { b0 := 0, b1 := 0, b2 := 0, b3 := 0 })) = true := by decide

/-- 07 at 47210: a request ends the lapse, expiry 50210, and its reply carries LAPSE_SEEN. -/
theorem test_request_ends_lapse :
    after (exec .noticeFetch (((opAt 47210).setPolicy { flyable with supervision := .lapsed }.computed).setLink
      { Link.reset with lapseSeen := true })) (fun t =>
      t.policy.supervision == .active 50210 && t.policy.loadPermission == .replicate 12 true &&
      replyOf t == [0xD1, 0, 8] && !t.link.lapseSeen) = true := by decide

/-! ## Supply, notices, faults -/

/-- 8.4 at 50010: the tenth reading below warn makes LOW. -/
theorem test_supply_sample_low :
    after (exec (.supplySample 1135 false) ((opAt 50010).setSupply { Supply.reset with state := .normal, warnDwell := 9 }))
      (fun t => t.supply.state == .low && t.supply.warnDwell == 10 && t.supply.entryTime == 50010 &&
        t.inFlight == [.noticePost .supply 50010 { b0 := 2, b1 := 0, b2 := 111, b3 := 4 }, .supplyStateReport .low])
      = true := by decide

/-- 8.6 at 80004: the third reading below cutoff makes CRITICAL, the capture first. -/
theorem test_supply_sample_critical :
    after (exec (.supplySample 965 false) ((opAt 80004).setSupply
      { Supply.reset with state := .normal, warnDwell := 3, cutoffDwell := 2 }))
      (fun t => t.supply.state == .critical && t.supply.warnDwell == 4 && t.supply.cutoffDwell == 3 &&
        t.inFlight == [.faultCapture (.supplyCritical 80004),
          .noticePost .supply 80004 { b0 := 3, b1 := 0, b2 := 197, b3 := 3 }, .supplyStateReport .critical]) = true := by
  decide

/-- 8.6 at 80002: the third low SRC sample changes the source. -/
theorem test_supply_source :
    let m := Supply.sampled { Supply.reset with state := .normal, warnDwell := 1, source := .mains, agree := 2 } 80002 985 false
    (m.source, m.agree, m.warnDwell, m.cutoffDwell, m.state) = (.battery, 0, 2, 1, .normal) := by decide

/-- R207, R208: a capture posts FAULT in its own event; a second capture sets more and keeps the first. -/
theorem test_fault_capture :
    after (exec (.faultCapture (.sensorLost 10010)) (opAt 10010)) (fun t =>
      t.faults == { record := some (.sensorLost 10010), more := false } &&
      t.notices.queue == [{ key := .fault, count := 1, time := 10010, payload := { b0 := 9, b1 := 12, b2 := 0, b3 := 0 } }] &&
      t.inFlight == []) &&
    after (exec (.faultCapture (.supplyCritical 80004)) (on.setFaults { record := some (.sensorLost 10010), more := false }))
      (fun t => t.faults == { record := some (.sensorLost 10010), more := true } && t.inFlight == []) = true := by decide

/-- R210: with the capture first, the warm restart throws its FAULT notice away with the queue. -/
theorem test_capture_before_restart :
    after (exec (.faultCapture (.sensorLost 10010)) (on.setLink { Link.reset with tx := .sending [] true })) (fun t =>
      after (exec .endOfReply t) (fun u => u.notices == .reset && u.faults == .reset && u.inFlight == [])) = true := by decide

/-- 6.4: the two SHOCK notices coalesce: count 2, payload (500, 12). -/
theorem test_notice_post_coalesces :
    after (exec (.noticePost .shock 100003 (payloadOf 500 12)) (on.setNotices
      { Notices.reset with queue := [{ key := .shock, count := 1, time := 100000, payload := payloadOf 900 12 }] })) (fun t =>
      t.notices.queue == [{ key := .shock, count := 2, time := 100003, payload := payloadOf 500 12 }]) = true := by decide

/-- R200: an urgent entry goes behind the last urgent one, ahead of every routine one. -/
theorem test_notice_post_places :
    after (exec (.noticePost .fault 5 (payloadOf 0 0)) (on.setNotices
      { Notices.reset with queue := [supplyEntry, { supplyEntry with key := .motion }] })) (fun t =>
      t.notices.queue.map (·.key) == [.supply, .fault, .motion]) = true := by decide

/-! ## Witnesses: for each statement with hypotheses, a state and operands that meet them, each clause's at the edge of
its range. `witness_<Name>` belongs to the statement `Obligations.<Name>`. -/

/-- The eleven bay states. -/
def states : List BayState :=
  [.vacant, .stopped, .queued, .ramping, .settling, .spinning, .loading, .flying, .unloading, .stopping, .faulted]

/-- The part in operation can answer a request at once. -/
theorem on_canAnswer : on.canAnswer := ⟨rfl, rfl⟩

/-- So can it with any record in bay 0. -/
theorem at0_canAnswer (x : Bay) : (at0 x).canAnswer := ⟨rfl, rfl⟩

/-- With no bay QUEUED and an empty queue, the queue holds exactly the QUEUED bays. -/
theorem bay0_queueLawful : ∀ st ∈ states, st ≠ .queued → (bay0 st).queueLawful := by
  unfold State.queueLawful
  decide

/-- A QUEUED bay 0 in the queue, alone. -/
def queued0 : State := (bay0 .queued).setArbiter { Arbiter.reset with queue := [0] }

theorem queued0_queueLawful : queued0.queueLawful := by
  unfold State.queueLawful
  decide

/-- An unload whose parked sample is the second, and whose guard ends at the next millisecond. -/
def nearlyParked : State :=
  at0 { bayIn .unloading with prkLevel := false, prkAgree := 1, guard := .running 1001 }

theorem witness_IdleStepsTakeReportsThenOneMillisecond :
    on.pending = [] ∧ on.inFlight = [] ∧ on.phase = .operating ∧ (on.handOn [.drdyEdge]).pending = [] ∧
    (on.handOn [.drdyEdge]).inFlight = [.drdyEdge] ∧
    State.reset.inFlight = [] ∧ State.reset.phase = .startUp .powerOn 250 ∧
    ({ State.reset with phase := .held .pin } : State).phase = .held .pin ∧
    nearlyParked.phase = .operating ∧ nearlyParked.inFlight = [] ∧ (nearlyParked.bay 0).state = .unloading ∧
    Instr.prkAssertion 0 ∈ nearlyParked.tick.inFlight ∧ Instr.unloadGuardExpiry 0 ∈ nearlyParked.tick.inFlight := by decide

theorem witness_CommandsLeaveQueuePinsAndClock :
    Instr.ident ≠ .powerOn ∧ Instr.ident ≠ .brownout ∧ Instr.ident ≠ .pinReset ∧ Instr.ident ≠ .resetRelease ∧
    Instr.ident ≠ .startUpIntervalEnd := by decide

theorem witness_RequestBytesAndRequestsAgree :
    judge 0x52 [] = .request .noticeStatus ∧
    (0x11 : Byte) = Request.kind (.bayAim 66 2 2) ∧ [66, 0, 2, 2] = Request.payload (.bayAim 66 2 2) := by decide

theorem witness_ReceivedFrameIsTheRequest :
    on.phase = .operating ∧ on.link.rx = .hunt ∧ on.link.gap = .idle ∧ on.link.awaitHigh = false ∧
    (∀ c, Instr.characterReception c true ∉ on.inFlight) ∧ Request.ident.command ∉ on.inFlight :=
  ⟨rfl, rfl, rfl, rfl, fun _ => by simp [on, opAt, State.reset, State.fullReset], by decide⟩

theorem witness_RepliesCarryResultAndFlags :
    let sent := on.setLink { Link.reset with tx := .sending [0xA5] false }
    State.reset.phase ≠ .operating ∧ on.link.tx = .idle ∧ sent.phase = .operating ∧
    sent.link.tx = .sending [0xA5] false ∧ ([0xA5] : List Byte)[0]? = some 0xA5 := by decide

/-- The part inside a frame. -/
def inFrame (rx : Receiver) : State := on.setLink { Link.reset with rx := rx, gap := .running 1000 }

theorem witness_ReceiverFollowsFrameStates :
    (let low := { on with inputs := { Inputs.atReset with rxdHigh := false } }.setLink { Link.reset with awaitHigh := true }
     low.phase = .operating ∧ low.link.awaitHigh = true ∧ low.inputs.rxdHigh = false) ∧
    on.link.awaitHigh = false ∧ on.inputs.rxdHigh = true ∧
    on.link.rx = .hunt ∧ (0xA4 : Byte) ≠ 0xA5 ∧ (inFrame .length).link.rx = .length ∧
    1 ≤ (1 : Byte).toNat ∧ (62 : Byte).toNat ≤ 62 ∧ (0 : Byte).toNat = 0 ∧ 63 ≤ (63 : Byte).toNat ∧
    ((inFrame (.body 1 [] 1)).link.rx = .body 1 [] 1 ∧ ([] : List Byte).length < (1 : Byte).toNat) ∧
    (inFrame (.body 1 [1] 2)).link.rx = .body 1 (1 :: []) 2 ∧ ([] : List Byte).length + 1 = (1 : Byte).toNat ∧
    (2 : Byte) + 255 ≠ 0 ∧ (2 : Byte) + 254 = 0 ∧ judge 1 [] = .request .ident ∧ judge 1 [0] = .badSize ∧
    judge 3 [] = .unknownKind ∧
    (inFrame .length).link.gap = .running 1000 ∧ reached (inFrame .length).clock 1000 = true ∧
    (inFrame .length).phase = .operating := by decide

theorem witness_ItemsAreDispatchedHeldOrDiscarded :
    on.link.tx = .idle ∧ sendingNow.phase = .operating ∧ sendingNow.link.tx ≠ .idle ∧ sendingNow.link.held = none ∧
    (sendingNow.setLink { sendingNow.link with held := some (.request .ident) }).link.held.isSome = true := by decide

theorem witness_EndOfReplyFreesTheTransmitter :
    let held := sendingNow.setLink { sendingNow.link with held := some (.request .ident) }
    let restarting (p : Policy) := (on.setLink { Link.reset with tx := .sending [] true }).setPolicy p
    sendingNow.phase = .operating ∧ sendingNow.link.tx = .sending [] false ∧ sendingNow.link.held = none ∧
    held.link.tx = .sending [] false ∧ held.link.held = some (.request .ident) ∧
    (restarting .reset).link.tx = .sending [] true ∧ (restarting .reset).policy.period = 0 ∧
    (restarting flyable).policy.period ≠ 0 ∧ (restarting flyable).policy.supervision = .active 43000 ∧
    (restarting { flyable with supervision := .lapsed }).policy.supervision = .lapsed := by decide

theorem witness_ReplyPayloadsHaveTheirSizes :
    (carryOut .ident on).1.result = .ok ∧ (carryOut (.bayQuery 12) on).1.result ≠ .ok ∧
    on.arbiter.queue.length ≤ 12 := by decide

theorem witness_StepsKeepTheLinkLawful :
    (inFrame (.body 1 [1] 2)).link.lawful ∧ ∃ t, step (inFrame (.body 1 [1] 2)) = .next t := by
  refine ⟨⟨by decide, ?_, by decide, ?_⟩, _, rfl⟩
  · rintro len got sum h
    simp only [inFrame, State.setLink, Receiver.body.injEq] at h
    obtain ⟨rfl, rfl, rfl⟩ := h
    decide
  · rintro f restart h
    simp [inFrame, State.setLink, Link.reset] at h

theorem witness_FullResetsAndTheirRelease :
    let held (k : FullReset) : State := { State.reset with phase := .held k }
    (held .powerOn).phase = .held .powerOn ∧ (held .brownout).phase = .held .brownout ∧ (held .pin).phase = .held .pin ∧
    State.reset.phase = .startUp .powerOn 250 ∧ State.reset.phase ≠ .operating ∧
    reached (State.reset.setClock 250).clock 250 = true ∧
    reached (State.reset.setClock 249).clock 250 = false := by decide

theorem witness_StepsKeepResetValuesBeforeOperation :
    ({ State.reset with phase := .held .pin } : State).resetLawful ∧
    ∃ t, step { State.reset with phase := .held .pin } = .next t :=
  ⟨⟨fun _ => ⟨rfl, rfl, rfl, rfl, rfl, rfl, rfl, rfl⟩, fun _ _ => rfl⟩, _, rfl⟩

/-- A raw descriptor with an access. -/
def rawWith (a : Access) : RawDescriptor := { Descriptor.default with access := a }.toRaw

theorem witness_BaySetupStoresAndActs :
    (∀ st ∈ states, (bay0 st).phase = .operating ∧ (bay0 st).link.tx = .idle ∧ ((bay0 st).bay 0).state = st) ∧
    12 ≤ (12 : Byte).toNat ∧ (11 : Byte) = BitVec.ofNat 8 (11 : BayId).val ∧
    (∀ st ∈ [BayState.ramping, .stopping], st.turning = true) ∧
    (Descriptor.ofRaw (rawWith .absent)).access = .absent ∧ (Descriptor.ofRaw (rawWith .spinOnly)).access = .spinOnly ∧
    (Descriptor.ofRaw (rawWith .full)).access = .full := by decide

theorem witness_DescriptorsAreBroughtIntoRange : Descriptor.default.inRange := by
  unfold Descriptor.inRange
  decide

theorem witness_BayQueriesReadTheRecord :
    on.canAnswer ∧ 12 ≤ (12 : Byte).toNat ∧ (11 : Byte) = BitVec.ofNat 8 (11 : BayId).val :=
  ⟨on_canAnswer, by decide, by decide⟩

theorem witness_AimsFollowTheOutcomeTable :
    on.canAnswer ∧ 4096 ≤ (4096 : Half).toNat ∧ (4095 : Half).toNat < 4096 ∧
    ((bay0 .vacant).bay 0).state = .vacant ∧ ((bay0 .faulted).bay 0).state = .faulted ∧
    (let x := { bayIn .spinning with desc := { Descriptor.default with access := .spinOnly } }
     x.state ≠ .vacant ∧ x.state ≠ .faulted ∧ x.desc.access = .spinOnly) ∧
    (let x := { bayIn .stopped with seated := false }
     x.state ≠ .vacant ∧ x.state ≠ .faulted ∧ x.desc.access ≠ .spinOnly ∧ x.state = .stopped ∧ x.seated = false) ∧
    (let x := bayIn .stopped
     x.state ≠ .vacant ∧ x.state ≠ .faulted ∧ x.desc.access ≠ .spinOnly ∧ x.seated = true ∧ x.intent = .off ∧
     x.intent ≠ .fly) :=
  ⟨on_canAnswer, by decide, by decide, by decide, by decide, by decide, by decide, by decide⟩

theorem witness_AcceptedAimsActByState :
    (∀ st ∈ states, st ≠ .vacant → st ≠ .faulted →
      ((bay0 st).aimBay 0 .spin 1).1 = .accepted ∧ ((bay0 st).bay 0).state = st ∧ ((bay0 st).bay 0).priority ≠ 1 ∧
      ((bay0 st).aimBay 0 .fly 0).1 = .accepted ∧ ((bay0 st).bay 0).priority = 0) ∧
    (∀ st ∈ states, st ≠ .vacant → st ≠ .faulted →
      ((at0 { bayIn st with intent := .spin }).aimBay 0 .off 0).1 = .accepted ∧
      ((at0 { bayIn st with intent := .spin }).bay 0).state = st) := by decide

theorem witness_ClearsReleaseFaultedBaysAlone :
    (bay0 .faulted).canAnswer ∧ 4096 ≤ (4096 : Half).toNat ∧ (4095 : Half).toNat < 4096 :=
  ⟨at0_canAnswer _, by decide, by decide⟩

/-- The ends of the descriptor's ranges give the ends of R36's. -/
theorem witness_SpeedBandsFitTheirField :
    ({ Descriptor.default with speedCode := 300, pulses := 1, tolerance := 32 } : Descriptor).inRange ∧
    ({ Descriptor.default with speedCode := 1500, pulses := 8, tolerance := 1 } : Descriptor).inRange ∧
    Bay.reset.target = (6000000 + 1440 / 2) / 1440 ∧ Bay.reset.half = 4167 * 8 / 256 ∧
    Bay.reset.faultHalf = 4167 * 16 / 256 := by
  unfold Descriptor.inRange
  decide

theorem witness_TachEdgesGivePeriods :
    let s (ms : Clock) := at0 { bayIn .ramping with edgeRef := some { ms := ms, us := 0 } }
    (bay0 .stopped).phase = .operating ∧ ((bay0 .stopped).bay 0).state.turning = false ∧
    ((bay0 .ramping).bay 0).state.turning = true ∧ ((bay0 .ramping).bay 0).edgeRef = none ∧
    ((s 1000).bay 0).edgeRef = some { ms := 1000, us := 0 } ∧
    since (s 1000).clock 1000 * 1000 + 99 - 0 < 100 ∧ 100 ≤ since (s 1000).clock 1000 * 1000 + 100 - 0 := by decide

theorem witness_PeriodsAreTestedByState :
    (∀ st ∈ states, ((bay0 st).bay 0).state = st) ∧
    (let x := bayIn .ramping
     x.inSpeedBand 4036 = false ∧ x.inSpeedBand 4037 = true ∧ x.inSpeedBand 4297 = true ∧ x.inSpeedBand 4298 = false) ∧
    (let x := { bayIn .settling with inBand := 14 }
     x.inBand + 1 < x.desc.settleCount ∧ x.desc.settleCount ≤ { x with inBand := 15 }.inBand + 1) ∧
    (∀ st ∈ [BayState.spinning, .loading, .flying, .unloading], st.proven = true) ∧
    (let x := { bayIn .flying with offBand := 2 }
     x.inFaultBand 3906 = false ∧ min 3 (x.offBand + 1) = 3 ∧ x.watchArmed = true ∧ x.inFaultBand 3907 = true ∧
     { x with watchArmed := false }.watchArmed = false) := by decide

theorem witness_RampsAndSilenceActOnTheSpindle :
    let x := { bayIn .ramping with duty := 63, rampTimer := .running 1000 }
    let y := { bayIn .spinning with silenceTimer := .running 1000 }
    (at0 x).phase = .operating ∧ ((at0 x).bay 0).state = .ramping ∧ ((at0 x).bay 0).rampTimer = .running 1000 ∧
    reached (at0 x).clock 1000 = true ∧ ((at0 y).bay 0).state.proven = true ∧
    ((at0 y).bay 0).silenceTimer = .running 1000 ∧
    (∀ st ∈ [BayState.spinning, .loading, .flying, .unloading], ((bay0 st).bay 0).state = st) := by decide

theorem witness_TimeoutsMarkTheBay :
    let s (st : BayState) := at0
      { bayIn st with
        spinupTimer := .running 1000, settleTimer := .running 1000, loadTimer := .running 1000,
        unloadTimer := .running 1000 }
    reached 1000 1000 = true ∧ reached 999 1000 = false ∧
    ∀ st ∈ [BayState.ramping, .settling, .loading, .unloading], (s st).phase = .operating ∧ ((s st).bay 0).state = st ∧
      ((s st).bay 0).spinupTimer = .running 1000 ∧ ((s st).bay 0).settleTimer = .running 1000 ∧
      ((s st).bay 0).loadTimer = .running 1000 ∧ ((s st).bay 0).unloadTimer = .running 1000 := by decide

theorem witness_StoppingEndsQuietOrFaulted :
    let x := { bayIn .stopping with quietTimer := .running 1000, stopTimer := .running 1000 }
    (at0 x).phase = .operating ∧ (bay0 .stopping).queueLawful ∧ reached (at0 x).clock 1000 = true ∧
    ((at0 x).bay 0).state = .stopping ∧ ((at0 x).bay 0).quietTimer = .running 1000 ∧
    ((at0 x).bay 0).stopTimer = .running 1000 ∧ ((at0 x).bay 0).mark = none ∧ ((at0 x).bay 0).intent = .off ∧
    ((at0 { x with intent := .spin }).bay 0).intent ≠ .off ∧ ((at0 x).bay 0).seated = true ∧
    ((at0 { x with mark := some { reason := .speedLost, found := .flying } }).bay 0).mark =
      some { reason := .speedLost, found := .flying } := by
  refine ⟨by decide, bay0_queueLawful _ (by decide) (by decide), ?_⟩
  decide

theorem witness_ParkedSenseActsByState :
    ∀ st ∈ states, (bay0 st).phase = .operating ∧ ((bay0 st).bay 0).state = st ∧ ((bay0 st).bay 0).prkLevel = true ∧
      ((at0 { bayIn st with prkLevel := false }).bay 0).prkLevel = false := by decide

theorem witness_LoadsAndUnloadsFollowTheirTests :
    let x := { bayIn .unloading with guard := .running 1000, intent := .fly }
    (at0 x).phase = .operating ∧ ((at0 x).bay 0).state = .unloading ∧ ((at0 x).bay 0).guard = .running 1000 ∧
    reached (at0 x).clock 1000 = true ∧ x.guard.over 999 = false ∧ x.guard.over 1000 = true ∧ x.prkLevel = true ∧
    { x with prkLevel := false }.prkLevel = false ∧ x.mark = none ∧ x.stopMark = false ∧ x.intent ≠ .off ∧
    { x with mark := some { reason := .speedLost, found := .flying } }.mark ≠ none ∧
    { x with stopMark := true }.stopMark = true ∧ (bayIn .unloading).intent = .off := by decide

theorem witness_OrdersActByState :
    ∀ st ∈ states, (bay0 st).phase = .operating ∧ ((bay0 st).bay 0).state = st := by decide

theorem witness_SeatEventsActByState :
    (∀ st ∈ states, (bay0 st).phase = .operating ∧ ((bay0 st).bay 0).state = st ∧ ((bay0 st).bay 0).seated = true) ∧
    (∀ st ∈ states, st ≠ .queued → (bay0 st).queueLawful) ∧ queued0.queueLawful ∧ (queued0.bay 0).state = .queued ∧
    (let x := { bayIn .stopped with seated := false, intent := .spin }
     x.seated = false ∧ x.state = .stopped ∧ x.intent ≠ .off ∧ (bayIn .stopped).intent = .off) :=
  ⟨by decide, bay0_queueLawful, queued0_queueLawful, by decide, by decide⟩

/-- A lawful part with bay 0 FLYING: heads loaded, watched, charged its run draw. -/
def flying0 : State :=
  (at0 { bayIn .flying with hld := true, duty := 64, prkLevel := false, intent := .fly, silenceTimer := .running 1050 }).setArbiter
    { Arbiter.reset with charges := putBay Arbiter.reset.charges 0 14 }

theorem witness_StepsKeepBaysLawful :
    flying0.baysLawful ∧ (∀ b, (flying0.bay b).outputsFollow) ∧ ∃ t, step flying0 = .next t := by
  refine ⟨⟨?_, ?_⟩, ?_, _, rfl⟩
  · unfold State.queueLawful
    decide
  · unfold Bay.lawful
    decide
  · unfold Bay.outputsFollow Descriptor.inRange
    decide

theorem witness_StepsKeepChargesOnStates :
    flying0.queueLawful ∧ flying0.chargesLawful ∧ ∃ t, step flying0 = .next t := by
  refine ⟨?_, ?_, _, rfl⟩
  · unfold State.queueLawful
    decide
  · unfold State.chargesLawful Descriptor.inRange
    decide

/-- The gate open and the timer idle, bay 7 waiting with 118 + 60 > 160 (4.12 at 1000). -/
theorem witness_StepsLeaveNoGrantUndone :
    let s := (((on.setBay 7 (waiting 3 60)).setArbiter
      { Arbiter.reset with
        queue := [7], charges := #v[40, 14, 14, 0, 0, 50, 0, 0, 0, 0, 0, 0], source := .mains, gateOpen := true }))
    s.queueLawful ∧ s.grantsDone ∧ s.candidate = some 7 ∧ ∃ t, step s = .next t := by
  refine ⟨?_, ?_, by decide, _, rfl⟩
  · unfold State.queueLawful
    decide
  · unfold State.grantsDone
    decide

theorem witness_CandidateIsFirstOfHighestLevel :
    (grants 1000 40 50 [3, 7] .idle).candidate = some 7 ∧ on.candidate = none := by decide

theorem witness_EvaluationsGrantWithinTheBudget :
    let s := grants 2400 14 50 [3, 7] .idle
    s.arbiter.gateOpen = true ∧ s.arbiter.spacingTimer = .idle ∧ s.candidate = some 7 ∧ s.fits 7 = true ∧
    (s.bay 7).stopHeld = false ∧ { s.bay 7 with stopHeld := true }.stopHeld = true ∧ 0 < s.arbiter.spacing ∧
    (let r := grants 1000 40 50 [3, 7] .idle
     r.candidate = some 7 ∧ r.fits 7 = false) ∧
    on.arbiter.gateOpen = false ∧ on.candidate = none ∧
    (grants 400 40 0 [3] (.running 500)).arbiter.spacingTimer ≠ .idle := by decide

theorem witness_ArbiterActsOnItsEvents :
    let s := grants 500 40 0 [3] (.running 500)
    s.phase = .operating ∧ (40 : Nat) = atBay s.arbiter.charges 0 ∧ 39 < atBay s.arbiter.charges 0 ∧
    atBay s.arbiter.charges 0 < 41 ∧ s.arbiter.gateOpen = true ∧ on.arbiter.gateOpen = false ∧
    s.arbiter.spacingTimer = .running 500 ∧ reached s.clock 500 = true := by decide

theorem witness_PowerSetupStoresAndEvaluates : on.canAnswer := on_canAnswer

theorem witness_SensorSetUpEdgesAndLoss :
    let m (f : Motion → Motion) := (opAt 10110).setMotion (f lost)
    let setUp := m fun l => { l with sensor := .setup, port := .settingUp }
    let waiting := m fun l => { l with sensor := .setup, window := .running 10110 }
    let runs := m fun l => { l with sensor := .running, watch := .running 10110, cls := .still }
    setUp.phase = .operating ∧ setUp.motion.sensor = .setup ∧ setUp.motion.port = .settingUp ∧ (76 : Byte) ≠ 77 ∧
    waiting.motion.sensor = .setup ∧ waiting.motion.window = .running 10110 ∧ waiting.motion.window ≠ .idle ∧
    setUp.motion.window = .idle ∧ reached waiting.clock 10110 = true ∧ (m id).motion.sensor = .lost ∧
    (m id).motion.retry = .running 10110 ∧ runs.motion.sensor = .running ∧ runs.motion.watch = .running 10110 ∧
    runs.motion.port ≠ .reading ∧ (m fun l => { l with port := .reading }).motion.port = .reading ∧
    runs.motion.port = .idle ∧ (131 % 33 = 32 ∧ ¬ 130 % 33 = 32) := by decide

theorem witness_ArrivalsMeasureInOrder :
    Motion.reset.tilt = .level ∧ { Motion.reset with tilt := .tilted }.tilt = .tilted := by decide

theorem witness_ArrivalsJudgeTheMotion :
    let d : Detections :=
      { peak := 0, shock := false, freefall := false, endOfPriming := false, tiltEntry := false, tiltExit := false }
    (let m := Motion.reset
     let j := m.judge 0 d
     m.primed = false ∧ m.openEpisode = none ∧ ¬ (d.shock = true ∨ d.freefall = true) ∧ j.cls ≠ .rough ∧
     m.tilt ≠ .tilted) ∧
    (grown.primed = true ∧ grown.cls = .still ∧ { d with endOfPriming := true }.endOfPriming = true ∧
      { d with shock := true }.shock = true) ∧
    { grown with cls := .rolling }.cls = .rolling ∧ { grown with cls := .rough }.cls = .rough ∧
    (let m := { Motion.reset with episodes := [episodeNo 12 none] }
     m.episodes = episodeNo 12 none :: [] ∧ (episodeNo 12 none).duration = none) := by decide

theorem witness_SampleArrivalsPostAndHandOn :
    let s := on.setMotion { grown with port := .reading }
    s.phase = .operating ∧ s.motion.sensor = .running ∧ s.motion.port = .reading ∧ on.motion.sensor ≠ .running := by
  decide

theorem witness_QuietTimerAndEpisodeReports :
    let closed := on.setMotion { grown with quiet := .running 1000 }
    kerb.phase = .operating ∧ kerb.motion.quiet = .running 104503 ∧ reached kerb.clock 104503 = true ∧
    kerb.motion.episodes = [{ episodeNo 12 none with start := 100000, peak := 900 }] ∧
    { episodeNo 12 none with start := 100000, peak := 900 }.duration = none ∧
    closed.motion.openEpisode = none ∧ closed.motion.quiet = .running 1000 ∧ reached closed.clock 1000 = true := by
  decide

theorem witness_MotionSetupActsOnTheWindow :
    on.canAnswer ∧
    (let t := MotionSettings.ofRaw MotionSettings.default.toRaw
     t.windowExponent = Motion.reset.settings.windowExponent ∧
     t.windowExponent ≠ grown.settings.windowExponent ∧ grown.cls ≠ .unprimed ∧
     { grown with cls := .unprimed }.cls = .unprimed) :=
  ⟨on_canAnswer, by decide⟩

/-- The three steps of R127 at their edges: 20 + 19 + 1 = 40, and 4094 − 12 = 4082. -/
theorem witness_MotionSettingsArePutInOrder :
    MotionSettings.default.inRange ∧
    (let put (lo hi : Nat) (v : Nat) : Nat := if v < lo then lo else if hi < v then hi else v
     put 1 4095 20 + 19 + 1 ≤ 40 ∧ 39 < 20 + 19 + 1 ∧ 4082 + 12 + 1 ≤ 4095 ∧ 4095 < 4083 + 12 + 1) := by
  unfold MotionSettings.inRange
  decide

/-- A lawful Motion Unit with one arrival in its run. -/
def oneArrival : Motion :=
  { Motion.reset with
    sensor := .running, ring := [{ number := 0, x := 0, y := 0, z := 256, activity := 0 }], sampleCounter := 1,
    runLength := 1, priming := 1, gz := 65536 }

theorem witness_StepsKeepTheMotionLawful :
    (on.setMotion oneArrival).motionLawful ∧ ∃ t, step (on.setMotion oneArrival) = .next t := by
  refine ⟨⟨?_, ?_, fun h => absurd rfl h⟩, _, rfl⟩
  · unfold Motion.samplingLawful MotionSettings.inRange Sample.inRange gravityInRange
    decide
  · refine ⟨by decide, by decide, by decide, ?_, ?_, by decide⟩
    · intro e h
      simp [State.setMotion, oneArrival, Motion.reset] at h
    · intro h
      simp [State.setMotion, oneArrival, Motion.reset, Motion.openEpisode] at h

theorem witness_PolicyTakesItsInputs :
    let s := (opAt 43000).setPolicy flyable
    s.phase = .operating ∧ { s.policy with classSeen := .still } = s.policy ∧
    { s.policy with classSeen := .rough } ≠ s.policy ∧ SupplyState.normal = s.policy.supplySeen ∧
    SupplyState.critical ≠ s.policy.supplySeen ∧ s.policy.supervision = .active 43000 ∧ reached s.clock 43000 = true ∧
    on.policy.supervision = .off ∧ (s.setPolicy { flyable with supervision := .lapsed }).policy.supervision = .lapsed := by
  decide

theorem witness_CaseInputsActByMode :
    (∀ mode ∈ [InputMode.off, .level, .edge], ∀ state ∈ [false, true], ∀ quiet ∈ [false, true],
      let s := on.setPolicy { flyable with handleMode := mode, handleState := state, quietSeen := quiet }
      s.phase = .operating ∧ s.policy.handleMode = mode ∧ s.policy.handleState = state ∧ s.policy.quietSeen = quiet) ∧
    ∀ mode ∈ [InputMode.off, .level, .edge], ∀ state ∈ [false, true],
      let s := on.setPolicy { flyable with lidMode := mode, lidState := state }
      s.policy.lidMode = mode ∧ s.policy.lidState = state := by decide

theorem witness_CaseSetupActsOnModesAndPeriod : on.canAnswer := on_canAnswer

theorem witness_StepsKeepThePolicyLawful : on.policyLawful ∧ ∃ t, step on = .next t := by
  refine ⟨?_, _, rfl⟩
  unfold State.policyLawful
  decide

/-- Each supply state with lawful counts, and the levels of the default indices 8 and 10 at their edges. -/
theorem witness_SupplySamplesMoveTheState :
    on.phase = .operating ∧
    (∀ st ∈ [SupplyState.none, .normal, .low, .critical],
      ({ Supply.reset with state := st } : Supply).lawful ∧ ({ Supply.reset with state := st } : Supply).state = st) ∧
    ({ Supply.reset with state := .normal, warnDwell := 9, cutoffDwell := 2, agree := 2 } : Supply).lawful ∧
    (999 < 900 + 10 * Supply.reset.cutoffIndex ∧ 900 + 10 * Supply.reset.cutoffIndex ≤ 1000 ∧
      1139 < 1060 + 10 * Supply.reset.warnIndex ∧ 1060 + 10 * Supply.reset.warnIndex ≤ 1140) ∧
    Source.mains ≠ Supply.reset.source ∧ Supply.reset.agree < 2 := by
  unfold Supply.lawful
  decide

/-- A lawful queue with an urgent and a routine entry, and a pending key of a masked kind. -/
def someNotices : Notices :=
  { queue := [supplyEntry, { supplyEntry with key := .motion }],
    pending := [{ supplyEntry with key := .tilt }], mask := 0x100 }

/-- A lawful full queue, two keys pending behind it. -/
def fullNotices : Notices :=
  let entry (k : Key) : Notice := { supplyEntry with key := k }
  { queue := (bayIds.take 8).map fun b => entry (.bay b), pending := [entry (.bay 8), entry (.bay 10)], mask := 0 }

theorem someNotices_lawful : someNotices.lawful := by
  unfold Notices.lawful
  decide

theorem fullNotices_lawful : fullNotices.lawful := by
  unfold Notices.lawful
  decide

theorem witness_PostsQueueCoalesceOrWait :
    on.phase = .operating ∧ someNotices.lawful ∧ fullNotices.lawful ∧
    someNotices.queue = [] ++ supplyEntry :: [{ supplyEntry with key := .motion }] ∧ supplyEntry.key = .supply ∧
    someNotices.pending = [] ++ { supplyEntry with key := .tilt } :: [] ∧
    ((∀ e ∈ someNotices.queue, e.key ≠ .fault) ∧ (∀ e ∈ someNotices.pending, e.key ≠ .fault) ∧
      someNotices.mask.getLsbD Key.fault.kind.val = false ∧ someNotices.queue.length < 8 ∧ Key.fault.urgent = true ∧
      someNotices.queue = [supplyEntry] ++ [{ supplyEntry with key := .motion }] ∧
      (∀ e ∈ [supplyEntry], e.key.urgent = true) ∧
      (∀ e ∈ [({ supplyEntry with key := .motion } : Notice)], e.key.urgent = false)) ∧
    ((∀ e ∈ someNotices.queue, e.key ≠ .input) ∧ (∀ e ∈ someNotices.pending, e.key ≠ .input) ∧
      someNotices.mask.getLsbD Key.input.kind.val = false ∧ Key.input.urgent = false) ∧
    ((∀ e ∈ fullNotices.queue, e.key ≠ .bay 9) ∧ (∀ e ∈ fullNotices.pending, e.key ≠ .bay 9) ∧
      ¬ fullNotices.queue.length < 8 ∧
      fullNotices.pending = [{ supplyEntry with key := .bay 8 }] ++ [{ supplyEntry with key := .bay 10 }] ∧
      (∀ e ∈ [({ supplyEntry with key := .bay 8 } : Notice)], e.key.number < (Key.bay 9).number) ∧
      (∀ e ∈ [({ supplyEntry with key := .bay 10 } : Notice)], (Key.bay 9).number < e.key.number)) := by
  refine ⟨by decide, someNotices_lawful, fullNotices_lawful, ?_⟩
  decide

theorem witness_FetchesAndMasksFillFromPending :
    let free : Notices := { fullNotices with queue := fullNotices.queue.tail }
    let urgent : Notices := { someNotices with pending := [{ supplyEntry with key := .fault }] }
    on.canAnswer ∧ (∃ e, free.queue.length < 8 ∧ free.entersNext e ∧ e.key.urgent = false) ∧
    (∃ e, urgent.queue.length < 8 ∧ urgent.entersNext e ∧ e.key.urgent = true) ∧
    fullNotices.pending.Pairwise (fun x y => x.key.number < y.key.number) ∧ 8 ≤ fullNotices.queue.length ∧
    (∀ e ∈ someNotices.pending, someNotices.mask.getLsbD e.key.kind.val = true) ∧ on.notices.queue = [] ∧
    someNotices.queue = supplyEntry :: [{ supplyEntry with key := .motion }] ∧
    (someNotices.mask.getLsbD (8 : Fin 11).val = true ∧ (0 : Half).getLsbD (8 : Fin 11).val = false) ∧
    ¬ (∃ kind : Fin 11, on.notices.mask.getLsbD kind.val = true ∧ (1 : Half).getLsbD kind.val = false) := by
  unfold Notices.entersNext
  refine ⟨on_canAnswer, ⟨{ supplyEntry with key := .bay 8 }, by decide⟩, ⟨{ supplyEntry with key := .fault }, by decide⟩, ?_⟩
  decide

theorem witness_CapturesAreHeldUntilRead :
    let held := on.setFaults { record := some (.sensorLost 10), more := true }
    on.phase = .operating ∧ on.canAnswer ∧ on.faults.record = none ∧ held.canAnswer ∧
    held.faults.record = some (.sensorLost 10) ∧ held.faults.record ≠ none ∧
    (let restarting := on.setLink { Link.reset with tx := .sending [] true }
     restarting.phase = .operating ∧ restarting.link.tx = .sending [] true ∧
       ∃ u, exec (.faultCapture (.sensorLost 10)) restarting = .next u) :=
  ⟨rfl, on_canAnswer, rfl, ⟨rfl, rfl⟩, rfl, by decide, rfl, rfl, _, rfl⟩

theorem witness_StepsKeepSupplyAndRecordsLawful :
    let s := ((on.setNotices fullNotices).setFaults { record := some (.sensorLost 10), more := true }).setSupply
      { Supply.reset with state := .normal, warnDwell := 9, cutoffDwell := 2 }
    s.supply.lawful ∧ s.notices.lawful ∧ s.faults.lawful ∧ ∃ t, step s = .next t := by
  refine ⟨?_, fullNotices_lawful, by unfold FaultRecord.lawful; decide, _, rfl⟩
  unfold Supply.lawful
  decide

theorem witness_IdentAndRestartAreAnswered : on.canAnswer := on_canAnswer

theorem witness_MotionRecordsAreReported :
    (on.setMotion grown).canAnswer ∧ (on.setMotion grown).motion.ring.length ≤ 64 ∧
    (List.replicate 64 (0 : Nat)).length ≤ 64 := ⟨⟨rfl, rfl⟩, by decide, by decide⟩

theorem witness_PowerAndCaseAreReported :
    (grants 1000 40 50 [3, 7] .idle).canAnswer ∧ (grants 1000 40 50 [3, 7] .idle).candidate = some 7 ∧
    on.canAnswer ∧ on.candidate = none := ⟨⟨rfl, rfl⟩, by decide, on_canAnswer, by decide⟩

end Sys2Proof.Tests
end

section
/-! SUPPORT. What the model does to one bay's record: the state and the draw that each entry gives, the changes of a record
as one relation, and the laws of a bay that every change keeps. -/

namespace Sys2Proof.Machine

/-! ## Kinds of states -/

theorem turning_iff {st : BayState} :
    st.turning = true ↔ st = .ramping ∨ st = .settling ∨ st = .spinning ∨ st = .loading ∨ st = .flying ∨
      st = .unloading ∨ st = .stopping := by cases st <;> decide

theorem poweredUp_iff {st : BayState} :
    st.poweredUp = true ↔ st = .ramping ∨ st = .settling ∨ st = .spinning ∨ st = .loading ∨ st = .flying ∨
      st = .unloading := by cases st <;> decide

theorem proven_iff {st : BayState} :
    st.proven = true ↔ st = .spinning ∨ st = .loading ∨ st = .flying ∨ st = .unloading := by cases st <;> decide

theorem setupAllowed_iff {st : BayState} :
    setupAllowed st = true ↔ st = .vacant ∨ st = .stopped ∨ st = .faulted := by cases st <;> decide

/-! ## State entries: state and draw (R10) -/

section
variable (x : Bay) (now : Clock) (reason : BayReason)

@[simp] theorem enterQueued_state : (x.enterQueued now).state = .queued := rfl
@[simp] theorem enterSettling_state : (x.enterSettling now).state = .settling := rfl
@[simp] theorem enterSpinningProven_state : (x.enterSpinningProven now).state = .spinning := rfl
@[simp] theorem enterSpinningUnloaded_state : (x.enterSpinningUnloaded now).state = .spinning := rfl
@[simp] theorem enterLoading_state : (x.enterLoading now).state = .loading := rfl
@[simp] theorem enterFlying_state : (x.enterFlying now).state = .flying := rfl
@[simp] theorem enterUnloading_state : (x.enterUnloading now).state = .unloading := rfl
@[simp] theorem enterStopping_state : (x.enterStopping now).state = .stopping := rfl
@[simp] theorem enterStopped_state : (x.enterStopped now).state = .stopped := rfl
@[simp] theorem enterFaulted_state : (x.enterFaulted reason now).state = .faulted := rfl
@[simp] theorem enterVacant_state : (x.enterVacant now).state = .vacant := rfl

@[simp] theorem enterQueued_draw : (x.enterQueued now).draw = 0 := rfl
@[simp] theorem enterSettling_draw : (x.enterSettling now).draw = x.desc.peakDraw := rfl
@[simp] theorem enterSpinningProven_draw : (x.enterSpinningProven now).draw = x.desc.runDraw := rfl
@[simp] theorem enterSpinningUnloaded_draw : (x.enterSpinningUnloaded now).draw = x.desc.runDraw := rfl
@[simp] theorem enterLoading_draw : (x.enterLoading now).draw = x.desc.runDraw := rfl
@[simp] theorem enterFlying_draw : (x.enterFlying now).draw = x.desc.runDraw := rfl
@[simp] theorem enterUnloading_draw : (x.enterUnloading now).draw = x.desc.runDraw := rfl
@[simp] theorem enterStopping_draw : (x.enterStopping now).draw = 0 := rfl
@[simp] theorem enterStopped_draw : (x.enterStopped now).draw = 0 := rfl
@[simp] theorem enterFaulted_draw : (x.enterFaulted reason now).draw = 0 := rfl
@[simp] theorem enterVacant_draw : (x.enterVacant now).draw = 0 := rfl

end

/-- Before a grant and from STOPPING on nothing is drawn. -/
theorem draw_idle {x : Bay} (h : x.state.poweredUp = false) : x.draw = 0 := by
  unfold Bay.draw
  cases hs : x.state <;> simp_all [BayState.poweredUp]

theorem draw_peak {x : Bay} (h : x.state = .ramping ∨ x.state = .settling) : x.draw = x.desc.peakDraw := by
  rcases h with h | h <;> simp [Bay.draw, h]

theorem draw_run {x : Bay} (h : x.state.proven = true) : x.draw = x.desc.runDraw := by
  rcases proven_iff.mp h with h | h | h | h <;> simp [Bay.draw, h]

/-! ## Changes of one record -/

/-- What one event makes of one bay's record: every way in which the model changes a bay, but for its joining the spin
queue, its leaving it and its grant. The guards are those under which the model makes the change (chapters 01 to 03). -/
inductive Bay.Change : Bay → Bay → Prop
  /-- Counts, levels, permissions and marks of time that no law speaks of. -/
  | unlawed {x y : Bay}
      (h : y = { x with
        priority := y.priority, seatCount := y.seatCount, spwr := y.spwr, lastTach := y.lastTach, inBand := y.inBand,
        loadPermission := y.loadPermission, stopHeld := y.stopHeld, edgeRef := y.edgeRef, offBand := y.offBand,
        watchArmed := y.watchArmed, prkSample := y.prkSample, prkAgree := y.prkAgree }) : Change x y
  /-- The seat changes where nothing turns, or is taken (R23, R24). -/
  | seat {x : Bay} (seated : Bool) (n : Nat)
      (h : seated = true ∨ x.state = .vacant ∨ x.state = .stopped ∨ x.state = .faulted) :
      Change x { x with seated := seated, seatCount := n }
  /-- The PRK level changes where R49 gives the change no further effect. -/
  | park {x : Bay} (level : Bool) (n : Nat)
      (hr : level = false → x.state ≠ .spinning ∧ x.state ≠ .loading) (ha : level = true → x.state ≠ .flying) :
      Change x { x with prkLevel := level, prkAgree := n }
  /-- An accepted tach edge (R34, R40, R43). -/
  | edge {x : Bay} (e : EdgeTime) : Change x (x.edgeAccepted e)
  /-- The silence timer has expired (R40). -/
  | silence {x : Bay} : Change x { x with silenceTimer := .idle }
  /-- The unload guard has passed (R56). -/
  | guardPassed {x : Bay} (h : x.guard ≠ .idle) : Change x { x with guard := .passed }
  /-- A step of the duty ramp (R32). -/
  | rampStep {x : Bay} (now : Clock) (hs : x.state = .ramping) (ht : x.rampTimer ≠ .idle) :
      Change x { x with
        duty := x.duty + 1, rampTimer := if x.duty + 1 < 64 then .after now x.desc.rampStep else .idle }
  /-- A fault or a stop order marks an unloading bay (R17, R20). -/
  | marked {x : Bay} (m : Option Mark) (stop : Bool) (hs : x.state = .unloading) :
      Change x { x with mark := m, stopMark := stop }
  /-- An aim sets intent and priority (R7). -/
  | aimed {x : Bay} (target : Intent) (level : Fin 4) (hv : x.state ≠ .vacant) (hf : x.state ≠ .faulted)
      (ha : target = .fly → x.desc.access ≠ .spinOnly) : Change x { x with intent := target, priority := level }
  /-- BAY_SETUP stores a descriptor and leaves the state (R3). -/
  | setUp {x : Bay} (d : Descriptor) (i : Intent) (hd : d.inRange) (hs : setupAllowed x.state = true)
      (hv : x.state = .vacant ↔ d.access = .absent)
      (hi : i = x.intent ∨ x.state = .stopped) (hf : i = .fly → x.state = .stopped → d.access = .full) :
      Change x { x.withDescriptor d with intent := i }
  /-- BAY_SETUP gives a VACANT bay an access (R3). -/
  | setUpVacant {x : Bay} (d : Descriptor) (now : Clock) (hd : d.inRange) (hs : x.state = .vacant)
      (ha : d.access ≠ .absent) : Change x ({ x.withDescriptor d with intent := .off }.enterStopped now)
  /-- BAY_SETUP takes a bay's access away (R3). -/
  | vacate {x : Bay} (d : Descriptor) (now : Clock) (hd : d.inRange) (hs : x.state = .stopped ∨ x.state = .faulted)
      (ha : d.access = .absent) : Change x ((x.withDescriptor d).enterVacant now)
  /-- Speed is reached (R14). -/
  | settle {x : Bay} (now : Clock) (hs : x.state = .ramping) : Change x (x.enterSettling now)
  /-- Speed is proven with the heads parked (R38). -/
  | prove {x : Bay} (now : Clock) (hs : x.state = .settling) (hp : x.prkLevel = true) :
      Change x (x.enterSpinningProven now)
  /-- Speed is proven with the PRK level released: the bay unloads at once (R61). -/
  | proveReleased {x : Bay} (now : Clock) (hs : x.state = .settling) :
      Change x ((x.enterSpinningProven now).enterUnloading now)
  /-- The heads load (R50, R51). -/
  | load {x : Bay} (now : Clock) (h : x.readyToLoad = true) : Change x (x.enterLoading now)
  /-- The heads leave the ramp (R52). -/
  | fly {x : Bay} (n : Nat) (now : Clock) (hs : x.state = .loading) :
      Change x ({ x with prkLevel := false, prkAgree := n }.enterFlying now)
  /-- The heads unload, on a mark or without (R54, R56, R60 to R62). -/
  | unload {x : Bay} (m : Option Mark) (stop level : Bool) (n : Nat) (now : Clock)
      (hs : x.state = .spinning ∨ x.state = .loading ∨ x.state = .flying) :
      Change x ({ x with mark := m, stopMark := stop, prkLevel := level, prkAgree := n }.enterUnloading now)
  /-- A clean unload ends in SPINNING (R57). -/
  | unloaded {x : Bay} (now : Clock) (hs : x.state = .unloading) (hp : x.prkLevel = true) (hm : x.mark = none)
      (hq : x.stopMark = false) : Change x (x.enterSpinningUnloaded now)
  /-- The spindle stops, on a mark or without (R42). -/
  | stop {x : Bay} (m : Option Mark) (stop : Bool) (now : Clock)
      (hs : x.state = .ramping ∨ x.state = .settling ∨ x.state = .spinning ∨ x.state = .unloading) :
      Change x ({ x with mark := m, stopMark := stop }.enterStopping now)
  /-- The spindle has stopped, or a fault is cleared (R16, R21). -/
  | stopped {x : Bay} (now : Clock) (hs : x.state = .stopping ∨ x.state = .faulted) : Change x (x.enterStopped now)
  /-- A turning bay goes to FAULTED (R19). -/
  | fault {x : Bay} (seated : Bool) (n : Nat) (reason : BayReason) (now : Clock) (hs : x.state.turning = true) :
      Change x ({ x with seated := seated, seatCount := n }.enterFaulted reason now)

/-- A QUEUED bay goes back to STOPPED, aimed OFF or unseated (R8, R23). -/
def Bay.dequeued (x : Bay) (seated : Bool) (n : Nat) (intent : Intent) (now : Clock) : Bay :=
  { x with seated := seated, seatCount := n, intent := intent }.enterStopped now

/-! ## The laws through a change -/

theorem access_full_of_ne {a : Access} (h : a ≠ .absent) (h' : a ≠ .spinOnly) : a = .full := by
  cases a <;> trivial

/-- A change keeps the laws of the record. -/
theorem Bay.Change.lawful {x y : Bay} (h : x.Change y) (hx : x.lawful) : y.lawful := by
  cases h with
  | unlawed h => rw [h]; exact hx
  | seat v n h => rcases h with h | h | h | h <;> simp_all [Bay.lawful, turning_iff]
  | park v n hr ha => cases v <;> simp_all [Bay.lawful]
  | edge =>
    obtain ⟨hv, ho, hf, hr, hm, hse, hp, hfl, hsp, hst, hsi, hq, hrest⟩ := hx
    refine ⟨hv, ho, hf, hr, hm, hse, hp, hfl, hsp, hst, ?_, ?_, hrest⟩ <;> simp only [Bay.edgeAccepted] <;> split
    all_goals simp_all
  | silence => simp_all [Bay.lawful]
  | guardPassed h =>
    obtain ⟨hv, ho, hf, hr, hm, hse, hp, hfl, hsp, hst, hsi, hq, hs, hl, hu, hg⟩ := hx
    exact ⟨hv, ho, hf, hr, hm, hse, hp, hfl, hsp, hst, hsi, hq, hs, hl, hu, by simp [hg.mp h]⟩
  | rampStep => simp_all [Bay.lawful]
  | marked => simp_all [Bay.lawful]
  | aimed target level hv hf ha =>
    have : target = .fly → x.desc.access = .full := fun ht => access_full_of_ne (fun h => hv (hx.1.mpr h)) (ha ht)
    simp_all [Bay.lawful]
  | setUp d i hd hs hv hi hf =>
    rcases setupAllowed_iff.mp hs with hs | hs | hs <;> simp_all [Bay.lawful, Bay.withDescriptor]
  | setUpVacant d now hd hs ha =>
    simp_all [Bay.lawful, Bay.withDescriptor, Bay.enterStopped, Bay.entered, Bay.timersIdle, turning_iff]
  | vacate d now hd hs ha =>
    simp_all [Bay.lawful, Bay.withDescriptor, Bay.enterVacant, Bay.entered, Bay.timersIdle, turning_iff]
  | settle now hs => simp_all [Bay.lawful, Bay.enterSettling, Bay.entered, turning_iff, proven_iff]
  | prove now hs hp => simp_all [Bay.lawful, Bay.enterSpinningProven, Bay.entered, turning_iff, proven_iff]
  | proveReleased now hs =>
    simp_all [Bay.lawful, Bay.enterSpinningProven, Bay.enterUnloading, Bay.entered, turning_iff, proven_iff]
  | load now h =>
    obtain ⟨hs, -, -, hp⟩ := readyToLoad_iff.mp h
    simp_all [Bay.lawful, Bay.enterLoading, Bay.entered, turning_iff, proven_iff]
  | fly n now hs => simp_all [Bay.lawful, Bay.enterFlying, Bay.entered, turning_iff, proven_iff]
  | unload m stop level n now hs =>
    rcases hs with hs | hs | hs <;> simp_all [Bay.lawful, Bay.enterUnloading, Bay.entered, turning_iff, proven_iff]
  | unloaded now hs hp hm hq =>
    simp_all [Bay.lawful, Bay.enterSpinningUnloaded, Bay.entered, turning_iff, proven_iff]
  | stop m stop now hs =>
    rcases hs with hs | hs | hs | hs <;>
      simp_all [Bay.lawful, Bay.enterStopping, Bay.entered, turning_iff, proven_iff]
  | stopped now hs =>
    rcases hs with hs | hs <;> simp_all [Bay.lawful, Bay.enterStopped, Bay.entered, Bay.timersIdle, turning_iff]
  | fault v n reason now hs =>
    rcases turning_iff.mp hs with hs | hs | hs | hs | hs | hs | hs <;>
      simp_all [Bay.lawful, Bay.enterFaulted, Bay.entered, Bay.timersIdle, turning_iff]

/-- A change keeps the outputs on the state. -/
theorem Bay.Change.outputsFollow {x y : Bay} (h : x.Change y) (hx : x.outputsFollow) : y.outputsFollow := by
  cases h with
  | unlawed h => rw [h]; exact hx
  | seat | park | edge | silence | guardPassed | marked | aimed => exact hx
  | rampStep now hs ht =>
    obtain ⟨hh, hd, hf, hr, ht', hi⟩ := hx
    have := hr hs
    have := (ht' ht).2
    refine ⟨hh, by simp [hs, BayState.poweredUp], fun _ h => absurd hs h, fun _ => by dsimp only; omega, ?_, hi⟩
    dsimp only
    split <;> simp_all
  | setUp d i hd hs hv hi hf =>
    rcases setupAllowed_iff.mp hs with hs | hs | hs <;>
      simp_all [Bay.outputsFollow, Bay.withDescriptor, poweredUp_iff]
  | setUpVacant =>
    simp_all [Bay.outputsFollow, Bay.withDescriptor, Bay.enterStopped, Bay.entered, Bay.timersIdle, poweredUp_iff]
  | vacate =>
    simp_all [Bay.outputsFollow, Bay.withDescriptor, Bay.enterVacant, Bay.entered, Bay.timersIdle, poweredUp_iff]
  | settle now hs => simp_all [Bay.outputsFollow, Bay.enterSettling, Bay.entered, poweredUp_iff]
  | prove now hs => simp_all [Bay.outputsFollow, Bay.enterSpinningProven, Bay.entered, poweredUp_iff]
  | proveReleased now hs =>
    simp_all [Bay.outputsFollow, Bay.enterSpinningProven, Bay.enterUnloading, Bay.entered, poweredUp_iff]
  | load now h =>
    obtain ⟨hs, -⟩ := readyToLoad_iff.mp h
    simp_all [Bay.outputsFollow, Bay.enterLoading, Bay.entered, poweredUp_iff]
  | fly n now hs => simp_all [Bay.outputsFollow, Bay.enterFlying, Bay.entered, poweredUp_iff]
  | unload m stop level n now hs =>
    rcases hs with hs | hs | hs <;> simp_all [Bay.outputsFollow, Bay.enterUnloading, Bay.entered, poweredUp_iff]
  | unloaded now hs => simp_all [Bay.outputsFollow, Bay.enterSpinningUnloaded, Bay.entered, poweredUp_iff]
  | stop m stop now hs => simp_all [Bay.outputsFollow, Bay.enterStopping, Bay.entered, poweredUp_iff]
  | stopped now hs => simp_all [Bay.outputsFollow, Bay.enterStopped, Bay.entered, Bay.timersIdle, poweredUp_iff]
  | fault v n reason now hs =>
    simp_all [Bay.outputsFollow, Bay.enterFaulted, Bay.entered, Bay.timersIdle, poweredUp_iff]

/-- A change keeps the descriptor in range. -/
theorem Bay.Change.inRange {x y : Bay} (h : x.Change y) (hx : x.desc.inRange) : y.desc.inRange := by
  cases h with
  | unlawed h => rw [h]; exact hx
  | setUp d i hd => exact hd
  | setUpVacant d now hd => exact hd
  | vacate d now hd => exact hd
  | _ => exact hx

/-- A change does not raise the draw: a run draw is at most the peak draw (R1, R10). -/
theorem Bay.Change.draw_le {x y : Bay} (h : x.Change y) (hx : x.desc.inRange) : y.draw ≤ x.draw := by
  have hrun : x.desc.runDraw ≤ x.desc.peakDraw := by
    obtain ⟨-, ⟨-, h⟩, -⟩ := hx
    exact h
  cases h with
  | unlawed h => rw [h]; exact le_rfl
  | setUp d i hd hs =>
    have hidle : x.state.poweredUp = false := by rcases setupAllowed_iff.mp hs with h | h | h <;> rw [h] <;> rfl
    exact (draw_idle (x := { x.withDescriptor d with intent := i }) hidle).trans_le (Nat.zero_le _)
  | setUpVacant | vacate | stop | stopped | fault => exact Nat.zero_le _
  | settle now hs => exact (draw_peak (.inl hs)).ge
  | prove now hs => exact hrun.trans (draw_peak (.inr hs)).ge
  | proveReleased now hs => exact hrun.trans (draw_peak (.inr hs)).ge
  | load now h => exact (draw_run (proven_iff.mpr (.inl (readyToLoad_iff.mp h).1))).ge
  | fly n now hs => exact (draw_run (proven_iff.mpr (.inr (.inl hs)))).ge
  | unload m stop level n now hs => exact (draw_run (proven_iff.mpr (by tauto))).ge
  | unloaded now hs => exact (draw_run (by rw [hs]; rfl)).ge
  | _ => exact le_rfl

/-- A change neither makes nor ends the wait in the spin queue. -/
theorem Bay.Change.queued_iff {x y : Bay} (h : x.Change y) : y.state = .queued ↔ x.state = .queued := by
  cases h with
  | unlawed h => rw [h]
  | setUpVacant d now hd hs => simp [hs]
  | vacate d now hd hs => rcases hs with hs | hs <;> simp [hs]
  | settle now hs => simp [hs]
  | prove now hs => simp [hs]
  | proveReleased now hs => simp [hs]
  | load now h => simp [(readyToLoad_iff.mp h).1]
  | fly n now hs => simp [hs]
  | unload m stop level n now hs => rcases hs with hs | hs | hs <;> simp [hs]
  | unloaded now hs => simp [hs]
  | stop m stop now hs => rcases hs with hs | hs | hs | hs <;> simp [hs]
  | stopped now hs => rcases hs with hs | hs <;> simp [hs]
  | fault v n reason now hs => rcases turning_iff.mp hs with hs | hs | hs | hs | hs | hs | hs <;> simp [hs]
  | _ => exact Iff.rfl

end Sys2Proof.Machine
end

section
/-! SUPPORT. The moves that a step is made of, and every law of bays, queue and charges through one move. -/

namespace Sys2Proof.Machine

/-- What one event makes of bays and arbiter: changes of single records, a change with its draw report, joining and
leaving the spin queue, an evaluation, new settings of the arbiter, a full reset. -/
inductive BayMove : State → State → Prop
  /-- Bays change without a change of draw; the arbiter stays. -/
  | keep {s t : State} (h : ∀ b, (s.bay b).Change (t.bay b) ∧ (t.bay b).draw = (s.bay b).draw)
      (ha : t.arbiter = s.arbiter) : BayMove s t
  /-- One bay changes and reports its draw (R46). -/
  | report {s : State} (b : BayId) (y : Bay) (h : (s.bay b).Change y) : BayMove s ((s.setBay b y).reportDraw b y.draw)
  /-- A seated STOPPED bay joins the spin queue (R12, R68). -/
  | join {s : State} (b : BayId) (hs : (s.bay b).state = .stopped) (hx : (s.bay b).seated = true) :
      BayMove s (s.joinQueue b)
  /-- A QUEUED bay goes back to STOPPED and its entry leaves the queue (R69). -/
  | leave {s : State} (b : BayId) (seated : Bool) (n : Nat) (intent : Intent) (now : Clock)
      (hs : (s.bay b).state = .queued) (hi : intent = .off ∨ intent = (s.bay b).intent) :
      BayMove s ((s.setBay b ((s.bay b).dequeued seated n intent now)).unqueue b)
  /-- An evaluation (R75). -/
  | evaluate {s : State} : BayMove s s.evaluate
  /-- Settings, source, gate and spacing timer of the arbiter. -/
  | settings {s : State} (a : Arbiter) (hq : a.queue = s.arbiter.queue) (hc : a.charges = s.arbiter.charges)
      (hm : a.mainsBudget = s.arbiter.mainsBudget ∨ 1 ≤ a.mainsBudget ∧ a.mainsBudget ≤ 255)
      (hb : a.batteryBudget = s.arbiter.batteryBudget ∨ 1 ≤ a.batteryBudget ∧ a.batteryBudget ≤ 255) :
      BayMove s (s.setArbiter a)
  /-- A full reset (R28, R87). -/
  | reset {s t : State} (hb : t.bays = .replicate 12 .reset) (ha : t.arbiter = .reset) : BayMove s t

/-! ## Each law through a move -/

/-- What storing the charge and every grant keep, a draw report keeps. -/
theorem reportDraw_induct {P : State → Prop} {s : State} {b : BayId} {charge : Nat}
    (store : P (s.setArbiter { s.arbiter with charges := putBay s.arbiter.charges b charge }))
    (grant : ∀ s b, P s → s.arbiter.mayGrant = true → s.candidate = some b → s.fits b = true → P (s.grant b)) :
    P (s.reportDraw b charge) := by
  rcases reportDraw_cases s b charge with h | h <;> rw [h]
  · exact store
  · exact evaluate_induct grant store

theorem granted_state (x : Bay) (now : Clock) :
    (x.granted now).state = if x.stopHeld then .stopping else .ramping := by
  unfold Bay.granted; split <;> rfl

@[simp] theorem grant_bay_same (s : State) (b : BayId) : (s.grant b).bay b = (s.bay b).granted s.clock := by
  simp [grant_eq]

theorem grant_bay_ne (s : State) {b i : BayId} (h : i ≠ b) : (s.grant b).bay i = s.bay i := by
  simp [grant_eq, setBay_bay_ne _ _ h]

/-- Bays that keep out of QUEUED or in it, behind the same queue. -/
theorem queueLawful_congr {s t : State} (hq : t.arbiter.queue = s.arbiter.queue)
    (hb : ∀ b, (t.bay b).state = .queued ↔ (s.bay b).state = .queued) (h : s.queueLawful) : t.queueLawful :=
  ⟨hq ▸ h.1, fun b => by rw [hq, h.2, hb]⟩

/-- One bay leaves both state QUEUED and queue. -/
theorem queueLawful_out {s t : State} (b : BayId) (hq : t.arbiter.queue = s.arbiter.queue.filter (· ≠ b))
    (hb : (t.bay b).state ≠ .queued) (ho : ∀ i, i ≠ b → t.bay i = s.bay i) (h : s.queueLawful) : t.queueLawful := by
  refine ⟨hq ▸ h.1.filter _, fun i => ?_⟩
  by_cases hi : i = b
  · subst hi; simp [hq, hb]
  · simp [hq, hi, ho i hi, h.2 i]

theorem queueLawful_grant {s : State} (b : BayId) (h : s.queueLawful) : (s.grant b).queueLawful :=
  queueLawful_out b (grant_queue s b) (by simp [granted_state]; split <;> simp) (fun _ hi => grant_bay_ne s hi) h

theorem queueLawful_evaluate {s : State} (h : s.queueLawful) : s.evaluate.queueLawful :=
  evaluate_induct (fun _ b hs _ _ _ => queueLawful_grant b hs) h

theorem queueLawful_setBay {s : State} {b : BayId} {y : Bay} (hy : y.state = .queued ↔ (s.bay b).state = .queued)
    (h : s.queueLawful) : (s.setBay b y).queueLawful :=
  queueLawful_congr (s := s) rfl (fun i => by by_cases hi : i = b <;> simp [setBay_bay, hi, hy]) h

theorem queueLawful_reportDraw {s : State} (b : BayId) (charge : Nat) (h : s.queueLawful) :
    (s.reportDraw b charge).queueLawful :=
  reportDraw_induct (P := State.queueLawful) (queueLawful_congr (s := s) rfl (fun _ => Iff.rfl) h)
    fun _ b hs _ _ _ => queueLawful_grant b hs

/-- Bay `b` in QUEUED and at the tail of the queue, the evaluation of its joining still to come (R68). -/
def State.joined (s : State) (b : BayId) : State :=
  (s.setBay b ((s.bay b).enterQueued s.clock)).setArbiter { s.arbiter with queue := s.arbiter.queue ++ [b] }

theorem joinQueue_joined (s : State) (b : BayId) : s.joinQueue b = (s.joined b).evaluate := rfl

theorem queueLawful_joined {s : State} {b : BayId} (hb : (s.bay b).state ≠ .queued) (h : s.queueLawful) :
    (s.joined b).queueLawful := by
  refine ⟨?_, fun i => ?_⟩
  · have hn : b ∉ s.arbiter.queue := fun hm => hb ((h.2 b).mp hm)
    simpa [State.joined, List.nodup_append] using ⟨h.1, fun i hi e => hn (e ▸ hi)⟩
  · by_cases hi : i = b
    · subst hi; simp [State.joined, Bay.enterQueued, Bay.entered]
    · simp [State.joined, hi, setBay_bay_ne _ _ hi, h.2 i]

theorem BayMove.queueLawful {s t : State} (m : BayMove s t) (h : s.queueLawful) : t.queueLawful := by
  cases m with
  | keep hk ha => exact queueLawful_congr (by rw [ha]) (fun b => (hk b).1.queued_iff) h
  | report b y hc => exact queueLawful_reportDraw _ _ (queueLawful_setBay hc.queued_iff h)
  | join b hs => exact queueLawful_evaluate (queueLawful_joined (by simp [hs]) h)
  | leave b seated n intent now hs =>
    refine queueLawful_out (s := s) b rfl ?_ (fun i hi => setBay_bay_ne s _ hi) h
    simp [State.unqueue, Bay.dequeued, Bay.enterStopped, Bay.entered, Bay.timersIdle]
  | evaluate => exact queueLawful_evaluate h
  | settings a hq => exact queueLawful_congr hq (fun _ => Iff.rfl) h
  | reset hb ha =>
    refine ⟨by simp [ha, Arbiter.reset], fun b => ?_⟩
    simp [ha, Arbiter.reset, State.bay, hb, Bay.reset]

/-- A law of one bay's record that holds at reset and that everything keeps which the model does to a bay. -/
structure BayLaw (P : Bay → Prop) : Prop where
  reset : P .reset
  change {x y : Bay} (h : x.Change y) : P x → P y
  granted {x : Bay} (now : Clock) (hs : x.state = .queued) : P x → P (x.granted now)
  queued {x : Bay} (now : Clock) (hs : x.state = .stopped) (hx : x.seated = true) : P x → P (x.enterQueued now)
  dequeued {x : Bay} (seated : Bool) (n : Nat) (intent : Intent) (now : Clock) (hs : x.state = .queued)
    (hi : intent = .off ∨ intent = x.intent) : P x → P (x.dequeued seated n intent now)

/-- The queue holds the QUEUED bays, and each bay has a property. -/
def State.allBays (P : Bay → Prop) (s : State) : Prop := s.queueLawful ∧ ∀ b, P (s.bay b)

section
variable {P : Bay → Prop}

theorem setBay_all {s : State} {b : BayId} {y : Bay} (hy : P y) (h : ∀ i, P (s.bay i)) (i : BayId) :
    P ((s.setBay b y).bay i) := by
  rw [setBay_bay]; split
  · exact hy
  · exact h i

theorem BayLaw.grant (law : BayLaw P) {s : State} {b : BayId} (hc : s.candidate = some b) (h : s.allBays P) :
    (s.grant b).allBays P := by
  obtain ⟨hq, hp⟩ := h
  refine ⟨queueLawful_grant b hq, fun i => ?_⟩
  by_cases hi : i = b
  · subst hi
    rw [grant_bay_same]
    exact law.granted _ ((hq.2 i).mp (candidate_mem hc).1) (hp i)
  · rw [grant_bay_ne s hi]; exact hp i

theorem BayLaw.evaluate (law : BayLaw P) {s : State} (h : s.allBays P) : s.evaluate.allBays P :=
  evaluate_induct (P := State.allBays P) (fun _ _ hs _ hc _ => law.grant hc hs) h

theorem BayLaw.reportDraw (law : BayLaw P) {s : State} (b : BayId) (charge : Nat) (h : s.allBays P) :
    (s.reportDraw b charge).allBays P :=
  reportDraw_induct (P := State.allBays P) h (fun _ _ hs _ hc _ => law.grant hc hs)

theorem BayLaw.move (law : BayLaw P) {s t : State} (m : BayMove s t) (h : s.allBays P) : t.allBays P := by
  refine ⟨m.queueLawful h.1, ?_⟩
  obtain ⟨hq, hp⟩ := h
  cases m with
  | keep hk ha => exact fun b => law.change (hk b).1 (hp b)
  | report b y hc =>
    exact (law.reportDraw b _ ⟨queueLawful_setBay hc.queued_iff hq, setBay_all (law.change hc (hp b)) hp⟩).2
  | join b hs hx =>
    exact (law.evaluate ⟨queueLawful_joined (by simp [hs]) hq, setBay_all (law.queued _ hs hx (hp b)) hp⟩).2
  | leave b seated n intent now hs hi => exact setBay_all (law.dequeued _ _ _ _ hs hi (hp b)) hp
  | evaluate => exact (law.evaluate ⟨hq, hp⟩).2
  | settings => exact hp
  | reset hb => exact fun b => by simpa [State.bay, hb] using law.reset

end

/-! ## The laws -/

theorem bayLaw_lawful : BayLaw Bay.lawful where
  reset := by unfold Bay.lawful; decide
  change := Bay.Change.lawful
  granted now hs h := by
    unfold Bay.granted
    split <;> simp_all [Bay.lawful, Bay.enterRamping, Bay.enterStopping, Bay.entered, turning_iff, proven_iff]
  queued now hs hx h := by simp_all [Bay.lawful, Bay.enterQueued, Bay.entered, turning_iff, proven_iff]
  dequeued seated n intent now hs hi h := by
    rcases hi with rfl | rfl <;>
      simp_all [Bay.lawful, Bay.dequeued, Bay.enterStopped, Bay.entered, Bay.timersIdle, turning_iff]

theorem bayLaw_outputsFollow : BayLaw Bay.outputsFollow where
  reset := by unfold Bay.outputsFollow Descriptor.inRange; decide
  change := Bay.Change.outputsFollow
  granted now hs h := by
    obtain ⟨-, -, -, -, -, hi⟩ := h
    have ⟨_, _, _, _, _, _, hr, _⟩ := hi
    unfold Bay.granted
    split <;> simp_all [Bay.outputsFollow, Bay.enterRamping, Bay.enterStopping, Bay.entered, poweredUp_iff] 
  queued now hs hx h := by simp_all [Bay.outputsFollow, Bay.enterQueued, Bay.entered, poweredUp_iff]
  dequeued seated n intent now hs hi h := by
    simp_all [Bay.outputsFollow, Bay.dequeued, Bay.enterStopped, Bay.entered, Bay.timersIdle, poweredUp_iff]

/-! ## Charges -/

/-- Bays that keep their draws, behind the same charges. -/
theorem chargesLawful_keep {s t : State} (hb : ∀ b, (t.bay b).draw = (s.bay b).draw ∧ (t.bay b).desc.inRange)
    (hc : t.arbiter.charges = s.arbiter.charges)
    (hm : 1 ≤ t.arbiter.mainsBudget ∧ t.arbiter.mainsBudget ≤ 255)
    (hbat : 1 ≤ t.arbiter.batteryBudget ∧ t.arbiter.batteryBudget ≤ 255) (h : s.chargesLawful) : t.chargesLawful := by
  obtain ⟨hs, -, -, hle⟩ := h
  refine ⟨fun b => ⟨by rw [hc, (hb b).1, (hs b).1], (hb b).2⟩, hm, hbat, ?_⟩
  rwa [Arbiter.committed, hc]

/-- One bay changes and its charge becomes its new draw, within what C leaves room for. -/
theorem chargesLawful_put {s t : State} (b : BayId) (y : Bay) (hb : t.bays = putBay s.bays b y)
    (hc : t.arbiter.charges = putBay s.arbiter.charges b y.draw)
    (hm : t.arbiter.mainsBudget = s.arbiter.mainsBudget) (hbat : t.arbiter.batteryBudget = s.arbiter.batteryBudget)
    (hy : y.desc.inRange) (hle : s.arbiter.committed + y.draw ≤ 255 + (s.bay b).draw) (h : s.chargesLawful) :
    t.chargesLawful := by
  obtain ⟨hs, hms, hbs, -⟩ := h
  refine ⟨fun i => ?_, hm ▸ hms, hbat ▸ hbs, ?_⟩
  · have hi : t.bay i = if i = b then y else s.bay i := by rw [State.bay, hb]; exact atBay_putBay ..
    rw [hi, hc, atBay_putBay]
    split
    · exact ⟨rfl, hy⟩
    · exact hs i
  · have hsum := sum_putBay s.arbiter.charges b y.draw
    rw [(hs b).1] at hsum
    rw [Arbiter.committed] at hle
    rw [Arbiter.committed, hc]
    omega

theorem budget_le {a : Arbiter} (hm : a.mainsBudget ≤ 255) (hb : a.batteryBudget ≤ 255) : a.budget ≤ 255 := by
  unfold Arbiter.budget; split <;> assumption

theorem granted_draw (x : Bay) (now : Clock) : (x.granted now).draw = if x.stopHeld then 0 else x.desc.peakDraw := by
  unfold Bay.granted; split <;> rfl

theorem granted_desc (x : Bay) (now : Clock) : (x.granted now).desc = x.desc := by
  unfold Bay.granted; split <;> rfl

/-- A grant that fits charges the granted bay and no more than the budget. -/
theorem chargesLawful_grant {s : State} {b : BayId} (hf : s.fits b = true) (h : s.chargesLawful) :
    (s.grant b).chargesLawful := by
  refine chargesLawful_put b ((s.bay b).granted s.clock) ?_ ?_ ?_ ?_ ?_ ?_ h
  · rw [grant_eq]; rfl
  · rw [grant_eq, granted_draw]; exact afterGrant_charges ..
  · rw [grant_eq]; exact afterGrant_mains ..
  · rw [grant_eq]; exact afterGrant_battery ..
  · rw [granted_desc]; exact (h.1 b).2
  · obtain ⟨-, ⟨-, hm⟩, ⟨-, hb⟩, -⟩ := h
    have := fits_iff.mp hf
    have := budget_le hm hb
    rw [granted_draw]
    split <;> omega

theorem chargesLawful_evaluate {s : State} (h : s.chargesLawful) : s.evaluate.chargesLawful :=
  evaluate_induct (P := State.chargesLawful) (fun _ _ hs _ _ hf => chargesLawful_grant hf hs) h

theorem BayMove.chargesLawful {s t : State} (m : BayMove s t) (h : s.chargesLawful) : t.chargesLawful := by
  have hs := h
  obtain ⟨hb, hm, hbat, hle⟩ := hs
  cases m with
  | keep hk ha =>
    exact chargesLawful_keep (fun b => ⟨(hk b).2, (hk b).1.inRange (hb b).2⟩) (by rw [ha]) (by rwa [ha]) (by rwa [ha]) h
  | report b y hc =>
    have := hc.draw_le (hb b).2
    exact reportDraw_induct (P := State.chargesLawful)
      (chargesLawful_put (s := s) b y rfl rfl rfl rfl (hc.inRange (hb b).2) (by omega) h)
      (fun _ _ hs _ _ hf => chargesLawful_grant hf hs)
  | join b hst =>
    refine chargesLawful_evaluate (chargesLawful_keep (s := s) (fun i => ?_) rfl hm hbat h)
    rw [setArbiter_bay, mapBay_bay]
    split
    · subst i; exact ⟨by simp [Bay.draw, Bay.enterQueued, Bay.entered, hst], (hb b).2⟩
    · exact ⟨rfl, (hb i).2⟩
  | leave b seated n intent now hst =>
    refine chargesLawful_keep (s := s) (fun i => ?_) rfl hm hbat h
    rw [State.unqueue, setArbiter_bay, setBay_bay]
    split
    · subst i
      exact ⟨by simp [Bay.draw, Bay.dequeued, Bay.enterStopped, Bay.entered, Bay.timersIdle, hst], (hb b).2⟩
    · exact ⟨rfl, (hb i).2⟩
  | evaluate => exact chargesLawful_evaluate h
  | settings a hq hc hm' hb' =>
    refine chargesLawful_keep (s := s) (fun b => ⟨rfl, (hb b).2⟩) hc ?_ ?_ h
    · rcases hm' with e | e
      · rwa [setArbiter_arbiter, e]
      · exact e
    · rcases hb' with e | e
      · rwa [setArbiter_arbiter, e]
      · exact e
  | reset hbays ha =>
    refine ⟨fun b => ?_, ?_, ?_, ?_⟩
    · rw [State.bay, hbays, ha, atBay_replicate]
      exact ⟨by simp [Arbiter.reset, Bay.draw, Bay.reset], bayLaw_outputsFollow.reset.2.2.2.2.2⟩
    all_goals rw [ha]; decide

end Sys2Proof.Machine
end

section
/-! SUPPORT. Chains of moves; the updates of the state in one order; the transitions between bay states as chains. -/

namespace Sys2Proof.Machine

/-! ## Updates of State in one order -/

@[simp] theorem setArbiter_setBay (s : State) (a : Arbiter) (b : BayId) (y : Bay) :
    (s.setArbiter a).setBay b y = (s.setBay b y).setArbiter a := rfl

@[simp] theorem setArbiter_setArbiter (s : State) (a a' : Arbiter) :
    (s.setArbiter a).setArbiter a' = s.setArbiter a' := rfl

@[simp] theorem handOn_setBay (s : State) (l : List Instr) (b : BayId) (y : Bay) :
    (s.handOn l).setBay b y = (s.setBay b y).handOn l := rfl

@[simp] theorem handOn_setArbiter (s : State) (l : List Instr) (a : Arbiter) :
    (s.handOn l).setArbiter a = (s.setArbiter a).handOn l := rfl

theorem mapBay_eq (s : State) (b : BayId) (f : Bay → Bay) : s.mapBay b f = s.setBay b (f (s.bay b)) := rfl

theorem setBay_comm (s : State) {b c : BayId} (h : c ≠ b) (x y : Bay) :
    (s.setBay b x).setBay c y = (s.setBay c y).setBay b x := by
  have : b.val ≠ c.val := fun e => h (Fin.ext e.symm)
  simp only [State.setBay, putBay, Vector.set_comm _ _ this]

/-! ## An evaluation and a bay that does not wait -/

theorem candidate_setBay {s : State} {b : BayId} (h : b ∉ s.arbiter.queue) (y : Bay) :
    (s.setBay b y).candidate = s.candidate := by
  have same : ∀ (level : Fin 4) (c : BayId),
      (s.arbiter.queue.contains c && !(s.setBay b y).oversize c && decide (((s.setBay b y).bay c).priority = level)) =
        (s.arbiter.queue.contains c && !s.oversize c && decide ((s.bay c).priority = level)) := by
    intro level c
    by_cases hc : c = b
    · subst hc; simp [h]
    · simp [State.oversize, setBay_bay_ne _ _ hc]
  simp only [State.candidate, setBay_arbiter, same]

theorem grant_setBay (s : State) {b c : BayId} (h : c ≠ b) (y : Bay) :
    (s.setBay b y).grant c = (s.grant c).setBay b y := by
  simp only [grant_eq, setBay_bay_ne _ _ h, setBay_comm _ h, setBay_clock, setBay_arbiter, setArbiter_setBay]

theorem evaluateWith_setBay (b : BayId) (y : Bay) : ∀ (fuel : Nat) (s : State), b ∉ s.arbiter.queue →
    State.evaluateWith fuel (s.setBay b y) = (State.evaluateWith fuel s).setBay b y
  | 0, _, _ => rfl
  | fuel + 1, s, h => by
    simp only [State.evaluateWith, setBay_arbiter, candidate_setBay h]
    split
    · rcases hc : s.candidate with _ | c
      · rfl
      · have hcb : c ≠ b := fun e => h (e ▸ (candidate_mem hc).1)
        have hf : (s.setBay b y).fits c = s.fits c := by simp [State.fits, setBay_bay_ne _ _ hcb]
        have ih := evaluateWith_setBay b y fuel (s.grant c) (by simp [h])
        simp only [hf, grant_setBay s hcb, ih, apply_ite (fun t : State => t.setBay b y)]
    · rfl

/-- A bay that does not wait in the queue may change before an evaluation or after it. -/
theorem evaluate_setBay {s : State} {b : BayId} (h : b ∉ s.arbiter.queue) (y : Bay) :
    (s.setBay b y).evaluate = s.evaluate.setBay b y := evaluateWith_setBay b y _ s h

theorem reportDraw_setBay {s : State} {b : BayId} (h : b ∉ s.arbiter.queue) (y : Bay) (c : BayId) (charge : Nat) :
    (s.setBay b y).reportDraw c charge = (s.reportDraw c charge).setBay b y := by
  rcases Nat.lt_trichotomy charge (atBay s.arbiter.charges c) with hc | hc | hc
  · rw [reportDraw_falls hc, reportDraw_falls (s := s.setBay b y) hc]
    exact evaluate_setBay (s := s.setArbiter { s.arbiter with charges := putBay s.arbiter.charges c charge }) h y
  · rw [reportDraw_same hc, reportDraw_same (s := s.setBay b y) hc]
  · rw [reportDraw_rises hc, reportDraw_rises (s := s.setBay b y) hc]; rfl

/-! ## Chains of moves -/

/-- Moves one after another. -/
def BayMoves : State → State → Prop := Relation.ReflTransGen BayMove

theorem BayMoves.refl (s : State) : BayMoves s s := Relation.ReflTransGen.refl

theorem BayMoves.trans {s t u : State} (h : BayMoves s t) (h' : BayMoves t u) : BayMoves s u :=
  Relation.ReflTransGen.trans h h'

theorem BayMove.moves {s t : State} (h : BayMove s t) : BayMoves s t := Relation.ReflTransGen.single h

/-- Work of other blocks. -/
theorem BayMoves.frame {s t : State} (hb : t.bays = s.bays) (ha : t.arbiter = s.arbiter) : BayMoves s t := by
  have same : ∀ b, t.bay b = s.bay b := fun b => by simp only [State.bay, hb]
  exact (BayMove.keep (fun b => ⟨same b ▸ .unlawed rfl, by rw [same b]⟩) ha).moves

theorem BayMoves.handOn (s : State) (l : List Instr) : BayMoves s (s.handOn l) := .frame rfl rfl
theorem BayMoves.taken (s : State) (c : Instr) : BayMoves s (s.taken c) := .frame rfl rfl

theorem BayMoves.setBay {s : State} {b : BayId} {y : Bay} (h : (s.bay b).Change y) (hd : y.draw = (s.bay b).draw) :
    BayMoves s (s.setBay b y) := by
  refine (BayMove.keep (s := s) (t := s.setBay b y) (fun i => ?_) rfl).moves
  rw [setBay_bay]
  split
  · subst i; exact ⟨h, hd⟩
  · exact ⟨.unlawed rfl, rfl⟩

theorem BayMoves.mapBay {s : State} {b : BayId} {f : Bay → Bay} (h : (s.bay b).Change (f (s.bay b)))
    (hd : (f (s.bay b)).draw = (s.bay b).draw) : BayMoves s (s.mapBay b f) := .setBay h hd

theorem BayMoves.evaluate (s : State) : BayMoves s s.evaluate := BayMove.evaluate.moves

theorem BayMoves.queueLawful {s t : State} (m : BayMoves s t) (h : s.queueLawful) : t.queueLawful := by
  induction m with
  | refl => exact h
  | tail _ m ih => exact m.queueLawful ih

/-! ## Transitions as moves -/

theorem withMark_eq (x : Bay) (reason : BayReason) :
    x.withMark reason =
      { x with mark := if x.mark = none ∨ reason = .stranded then some ⟨reason, x.state⟩ else x.mark } := by
  simp only [Bay.withMark, Bool.or_eq_true, Option.isNone_iff_eq_none, decide_eq_true_eq]
  split <;> rfl

theorem mapBay_withMark (s : State) (b : BayId) (reason : BayReason) :
    s.mapBay b (·.withMark reason) =
      s.setBay b { s.bay b with
        mark := if (s.bay b).mark = none ∨ reason = .stranded then some ⟨reason, (s.bay b).state⟩
          else (s.bay b).mark } := by
  rw [mapBay_eq, withMark_eq]

section
variable {s : State} {b : BayId}

theorem BayMoves.toStopping_marked (m : Option Mark) (stop : Bool)
    (hs : (s.bay b).state = .ramping ∨ (s.bay b).state = .settling ∨ (s.bay b).state = .spinning ∨
      (s.bay b).state = .unloading) :
    BayMoves s ((s.setBay b { s.bay b with mark := m, stopMark := stop }).toStopping b) := by
  rw [toStopping_eq, setBay_setBay, setBay_bay_same]
  exact (BayMove.report b _ (.stop m stop _ hs)).moves

theorem BayMoves.toStopping
    (hs : (s.bay b).state = .ramping ∨ (s.bay b).state = .settling ∨ (s.bay b).state = .spinning ∨
      (s.bay b).state = .unloading) : BayMoves s (s.toStopping b) := by
  rw [toStopping_eq]
  exact (BayMove.report b _ (.stop (s.bay b).mark (s.bay b).stopMark _ hs)).moves

theorem draw_unload {x : Bay} (hs : x.state = .spinning ∨ x.state = .loading ∨ x.state = .flying) :
    x.draw = x.desc.runDraw := by rcases hs with h | h | h <;> simp [Bay.draw, h]

theorem BayMoves.toUnloading_marked (m : Option Mark) (stop level : Bool) (n : Nat)
    (hs : (s.bay b).state = .spinning ∨ (s.bay b).state = .loading ∨ (s.bay b).state = .flying) :
    BayMoves s
      ((s.setBay b { s.bay b with mark := m, stopMark := stop, prkLevel := level, prkAgree := n }).toUnloading b) := by
  rw [toUnloading_eq, setBay_setBay, setBay_bay_same]
  exact .setBay (.unload m stop level n _ hs) (draw_unload hs).symm

theorem BayMoves.toUnloading
    (hs : (s.bay b).state = .spinning ∨ (s.bay b).state = .loading ∨ (s.bay b).state = .flying) :
    BayMoves s (s.toUnloading b) := by
  rw [toUnloading_eq]
  exact .setBay (.unload (s.bay b).mark (s.bay b).stopMark (s.bay b).prkLevel (s.bay b).prkAgree _ hs)
    (draw_unload hs).symm

theorem BayMoves.toFaulted_unseated (seated : Bool) (n : Nat) (reason : BayReason) (found : BayState)
    (hs : (s.bay b).state.turning = true) :
    BayMoves s ((s.setBay b { s.bay b with seated := seated, seatCount := n }).toFaulted b reason found) := by
  simp only [State.toFaulted, mapBay_eq, setBay_bay_same, setBay_setBay, setBay_clock]
  exact (BayMove.report b _ (.fault seated n reason _ hs)).moves.trans (.frame rfl rfl)

theorem BayMoves.toFaulted (reason : BayReason) (found : BayState) (hs : (s.bay b).state.turning = true) :
    BayMoves s (s.toFaulted b reason found) := by
  exact (BayMove.report b _ (.fault (s.bay b).seated (s.bay b).seatCount reason _ hs)).moves.trans (.frame rfl rfl)

theorem BayMoves.toStopped (hs : (s.bay b).state = .stopping ∨ (s.bay b).state = .faulted) :
    BayMoves s (s.toStopped b) := by
  rw [toStopped_eq]
  refine (BayMoves.setBay (.stopped _ hs) ?_).trans (.handOn ..)
  rcases hs with h | h <;> simp [Bay.draw, Bay.enterStopped, Bay.entered, Bay.timersIdle, h]

theorem BayMoves.loadTest (s : State) (b : BayId) : BayMoves s (s.loadTest b) := by
  rw [loadTest_eq]
  split
  next h => exact .setBay (.load _ h) (draw_unload (.inl (readyToLoad_iff.mp h).1)).symm
  next => exact .refl s

theorem BayMoves.queueIfWanted (s : State) (b : BayId) : BayMoves s (s.queueIfWanted b) := by
  simp only [State.queueIfWanted, Bool.and_eq_true, decide_eq_true_eq]
  split
  next h => exact (BayMove.join b h.1.1 h.1.2).moves
  next => exact .refl s

/-- A QUEUED bay is taken out of the queue and enters STOPPED with its notice. -/
theorem BayMoves.dequeue (seated : Bool) (n : Nat) (intent : Intent) (hs : (s.bay b).state = .queued)
    (hi : intent = .off ∨ intent = (s.bay b).intent) :
    BayMoves s
      (((s.setBay b { s.bay b with seated := seated, seatCount := n, intent := intent }).unqueue b).toStopped b) := by
  rw [toStopped_eq]
  refine BayMoves.trans (t := (s.setBay b ((s.bay b).dequeued seated n intent s.clock)).unqueue b)
    (BayMove.leave b seated n intent _ hs hi).moves ?_
  simp only [State.unqueue, setArbiter_setBay, setBay_setBay, setArbiter_bay, setBay_bay_same]
  exact .handOn ..

theorem toSpinningProven_eq (s : State) (b : BayId) :
    s.toSpinningProven b =
      (((s.setBay b ((s.bay b).enterSpinningProven s.clock)).handOn
        [.noticePost (.bay b) s.clock { b0 := 5, b1 := reasonCode? (s.bay b).reason, b2 := 0, b3 := 0 }]).reportDraw b
          (s.bay b).desc.runDraw).afterSpinning b := by
  simp only [State.toSpinningProven, mapBay_eq, postBay_eq, setBay_bay_same, setBay_clock, handOn_bay]
  rfl

theorem toSpinningUnloaded_eq (s : State) (b : BayId) :
    s.toSpinningUnloaded b =
      ((s.setBay b ((s.bay b).enterSpinningUnloaded s.clock)).handOn
        [.noticePost (.bay b) s.clock { b0 := 5, b1 := reasonCode? (s.bay b).reason, b2 := 0, b3 := 0 }]).afterSpinning
          b := by
  simp only [State.toSpinningUnloaded, mapBay_eq, postBay_eq, setBay_bay_same, setBay_clock]
  rfl

theorem afterSpinning_parked (h : (s.bay b).prkLevel = true) : s.afterSpinning b = s.loadTest b := by
  simp [State.afterSpinning, h]

theorem afterSpinning_released (h : (s.bay b).prkLevel = false) :
    s.afterSpinning b = s.setBay b ((s.bay b).enterUnloading s.clock) := by
  simp [State.afterSpinning, h, toUnloading_eq]

/-- A bay that proves speed with its PRK level released stands in UNLOADING already when the arbiter takes the report of
its run draw: nothing reads the bay in between. -/
theorem toSpinningProven_released (hq : b ∉ s.arbiter.queue) (hp : (s.bay b).prkLevel = false) :
    s.toSpinningProven b =
      ((s.setBay b (((s.bay b).enterSpinningProven s.clock).enterUnloading s.clock)).handOn
        [.noticePost (.bay b) s.clock { b0 := 5, b1 := reasonCode? (s.bay b).reason, b2 := 0, b3 := 0 }]).reportDraw b
          (s.bay b).desc.runDraw := by
  let u := (s.setBay b ((s.bay b).enterSpinningProven s.clock)).handOn
    [.noticePost (.bay b) s.clock { b0 := 5, b1 := reasonCode? (s.bay b).reason, b2 := 0, b3 := 0 }]
  have hbay : (u.reportDraw b (s.bay b).desc.runDraw).bay b = (s.bay b).enterSpinningProven s.clock := by
    rw [reportDraw_bay_of_not_mem (s := u) hq, handOn_bay, setBay_bay_same]
  rw [toSpinningProven_eq, afterSpinning_released (by rw [hbay]; exact hp), hbay, ← reportDraw_setBay (s := u) hq]
  simp [u]

end

end Sys2Proof.Machine
end

section
/-! SUPPORT. Every command that the dispatch hands to a bay or to the arbiter, as a chain of moves. -/

namespace Sys2Proof.Machine

theorem over_ne_idle {g : Guard} {now : Clock} (h : g.over now = true) : g ≠ .idle := by
  rintro rfl; cases h

theorem BayMoves.speedLost (s : State) (b : BayId) : BayMoves s (s.speedLost b) := by
  simp only [State.speedLost]
  have watch : BayMoves s (s.mapBay b fun x => { x with watchArmed := false }) := .setBay (.unlawed rfl) rfl
  refine watch.trans ?_
  split
  next hs =>
    rw [mapBay_withMark]
    exact .toStopping_marked _ _ (.inr (.inr (.inl hs)))
  next hs =>
    rw [mapBay_withMark]
    exact .toUnloading_marked _ _ _ _ (.inr (.inl hs))
  next hs =>
    rw [mapBay_withMark]
    exact .toUnloading_marked _ _ _ _ (.inr (.inr hs))
  next hs =>
    rw [mapBay_withMark]
    exact .setBay (.marked _ _ hs) rfl
  all_goals exact .refl _

/-- A bay in a state other than QUEUED is not in the queue. -/
theorem not_mem_queue {s : State} {b : BayId} (h : s.queueLawful) (hs : (s.bay b).state ≠ .queued) :
    b ∉ s.arbiter.queue := fun hm => hs ((h.2 b).mp hm)

theorem BayMoves.toSpinningProven {s : State} {b : BayId} (hq : s.queueLawful) (hs : (s.bay b).state = .settling) :
    BayMoves s (s.toSpinningProven b) := by
  have hb : b ∉ s.arbiter.queue := not_mem_queue hq (by simp [hs])
  rcases hp : (s.bay b).prkLevel
  · rw [toSpinningProven_released hb hp, ← handOn_setBay]
    exact (BayMoves.handOn ..).trans (BayMove.report (s := s.handOn _) b _ (.proveReleased _ hs)).moves
  · rw [toSpinningProven_eq, ← handOn_setBay, afterSpinning_parked]
    · exact ((BayMoves.handOn ..).trans
        (BayMove.report (s := s.handOn _) b _ (.prove _ hs hp)).moves).trans (.loadTest ..)
    · rw [reportDraw_bay_of_not_mem (by exact hb), setBay_bay_same]
      exact hp

theorem BayMoves.toSpinningUnloaded {s : State} {b : BayId} (hs : (s.bay b).state = .unloading)
    (hp : (s.bay b).prkLevel = true) (h : (s.bay b).returnsToSpinning = true) :
    BayMoves s (s.toSpinningUnloaded b) := by
  simp only [Bay.returnsToSpinning, Bool.and_eq_true, Option.isNone_iff_eq_none, Bool.not_eq_true'] at h
  obtain ⟨⟨hm, hq⟩, -⟩ := h
  rw [toSpinningUnloaded_eq, afterSpinning_parked (by simpa [Bay.enterSpinningUnloaded, Bay.entered] using hp)]
  have spin : BayMoves s (s.setBay b ((s.bay b).enterSpinningUnloaded s.clock)) :=
    .setBay (.unloaded _ hs hp hm hq) (by simp [Bay.draw, Bay.enterSpinningUnloaded, Bay.entered, hs])
  exact (spin.trans (.handOn ..)).trans (.loadTest ..)

/-! ## Commands of a bay -/

theorem BayMoves.takeUnseat (b : BayId) (s : State) : BayMoves s (takeUnseat b s) := by
  simp only [Machine.takeUnseat]
  split
  · simp only [mapBay_bay_same]
    split
    next hs => exact .setBay (.seat false 0 (by simp [hs])) rfl
    next hs => exact .setBay (.seat false 0 (by simp [hs])) rfl
    next hs => exact .setBay (.seat false 0 (by simp [hs])) rfl
    next hs =>
      refine BayMoves.trans ?_ (.evaluate _)
      simpa [mapBay_eq, State.unqueue] using BayMoves.dequeue false 0 .off hs (.inl rfl)
    all_goals exact .toFaulted_unseated _ _ _ _ (by simp [turning_iff, *])
  · exact .refl s

theorem BayMoves.takeReseat (b : BayId) (s : State) : BayMoves s (takeReseat b s) := by
  simp only [Machine.takeReseat]
  split
  · exact .refl s
  · exact (BayMoves.setBay (.seat true 0 (.inl rfl)) rfl).trans (.queueIfWanted ..)

theorem BayMoves.takePrkRelease (b : BayId) (s : State) : BayMoves s (takePrkRelease b s) := by
  simp only [Machine.takePrkRelease]
  split
  · simp only [mapBay_bay_same]
    split
    next hs => exact .toUnloading_marked _ _ false 0 (.inl hs)
    next hs =>
      rw [mapBay_mapBay]
      exact (BayMoves.setBay (.fly 0 _ hs) (by simp [Bay.draw, Bay.enterFlying, Bay.entered, hs])).trans (.handOn ..)
    all_goals
      exact .mapBay (f := fun x => { x with prkLevel := false, prkAgree := 0 })
        (.park false 0 (by simp [*]) (by simp)) rfl
  · exact .refl s

theorem BayMoves.takePrkAssertion (b : BayId) (s : State) : BayMoves s (takePrkAssertion b s) := by
  simp only [Machine.takePrkAssertion]
  split
  · exact .refl s
  · simp only [mapBay_bay_same]
    split
    next hs =>
      rw [mapBay_mapBay, mapBay_eq, withMark_eq]
      exact .toUnloading_marked _ _ true 0 (.inr (.inr hs))
    all_goals exact .setBay (.park true 0 (by simp) (by simp [*])) rfl

theorem BayMoves.takeGuardExpiry (b : BayId) (s : State) : BayMoves s (takeGuardExpiry b s) := by
  simp only [Machine.takeGuardExpiry]
  split
  next h => exact .setBay (.guardPassed (over_ne_idle h)) rfl
  next => exact .refl s

theorem BayMoves.takeCompletionTest (b : BayId) (s : State) : BayMoves s (takeCompletionTest b s) := by
  simp only [Machine.takeCompletionTest, Bool.and_eq_true, decide_eq_true_eq]
  split
  next h =>
    obtain ⟨⟨hs, -⟩, hp⟩ := h
    split
    next hr => exact .toSpinningUnloaded hs hp hr
    next => exact .toStopping (by simp [hs])
  next => exact .refl s

theorem BayMoves.takeLoadTimeout (b : BayId) (s : State) : BayMoves s (takeLoadTimeout b s) := by
  simp only [Machine.takeLoadTimeout, Bool.and_eq_true, decide_eq_true_eq]
  split
  next h =>
    rw [mapBay_withMark]
    exact .toUnloading_marked _ _ _ _ (by simp [h.1])
  next => exact .refl s

theorem BayMoves.takeUnloadTimeout (b : BayId) (s : State) : BayMoves s (takeUnloadTimeout b s) := by
  simp only [Machine.takeUnloadTimeout, Bool.and_eq_true, decide_eq_true_eq]
  split
  next h =>
    rw [mapBay_withMark]
    exact (BayMoves.toStopping_marked _ _ (by simp [h.1])).trans (.handOn ..)
  next => exact .refl s

theorem BayMoves.takeForcedUnload (b : BayId) (s : State) : BayMoves s (takeForcedUnload b s) := by
  simp only [Machine.takeForcedUnload, BayState.headsUp, Bool.or_eq_true, decide_eq_true_eq]
  split
  next h => exact (BayMoves.toUnloading (.inr h)).trans (.handOn ..)
  next => exact .refl s

theorem BayMoves.takeStopOrder (b : BayId) (s : State) : BayMoves s (takeStopOrder b s) := by
  simp only [Machine.takeStopOrder]
  have held : BayMoves s (s.mapBay b fun x => { x with stopHeld := true }) := .setBay (.unlawed rfl) rfl
  refine held.trans ?_
  split
  next hs => exact .toStopping_marked _ true (.inl hs)
  next hs => exact .toStopping_marked _ true (.inr (.inl hs))
  next hs => exact .toStopping_marked _ true (.inr (.inr (.inl hs)))
  next hs => exact (BayMoves.toUnloading_marked _ true _ _ (.inr (.inl hs))).trans (.handOn ..)
  next hs => exact (BayMoves.toUnloading_marked _ true _ _ (.inr (.inr hs))).trans (.handOn ..)
  next hs => exact .setBay (.marked _ true hs) rfl
  all_goals exact .refl _

theorem BayMoves.takeStopOrderLift (b : BayId) (s : State) : BayMoves s (takeStopOrderLift b s) :=
  .mapBay (f := fun x => { x with stopHeld := false }) (.unlawed rfl) rfl

theorem BayMoves.takeLoadPermission (b : BayId) (v : Bool) (s : State) : BayMoves s (takeLoadPermission b v s) := by
  simp only [Machine.takeLoadPermission]
  have held : BayMoves s (s.mapBay b fun x => { x with loadPermission := v }) := .mapBay (.unlawed rfl) rfl
  split
  · exact held.trans (.loadTest ..)
  · exact held

theorem BayMoves.takePwmBoundary (b : BayId) (s : State) : BayMoves s (takePwmBoundary b s) :=
  .mapBay (f := fun x => { x with spwr := x.duty }) (.unlawed rfl) rfl

theorem BayMoves.takeRampStep (b : BayId) (s : State) : BayMoves s (takeRampStep b s) := by
  simp only [Machine.takeRampStep, Bool.and_eq_true, decide_eq_true_eq]
  split
  next h =>
    obtain ⟨e, ht, -⟩ := due_eq_true.mp h.2
    exact .setBay (.rampStep _ h.1 (by simp [ht])) rfl
  next => exact .refl s

theorem BayMoves.takeSpinupTimeout (b : BayId) (s : State) : BayMoves s (takeSpinupTimeout b s) := by
  simp only [Machine.takeSpinupTimeout, Bool.and_eq_true, decide_eq_true_eq]
  split
  next h =>
    rw [mapBay_withMark]
    exact .toStopping_marked _ _ (.inl h.1)
  next => exact .refl s

theorem BayMoves.takeSettleTimeout (b : BayId) (s : State) : BayMoves s (takeSettleTimeout b s) := by
  simp only [Machine.takeSettleTimeout, Bool.and_eq_true, decide_eq_true_eq]
  split
  next h =>
    rw [mapBay_withMark]
    exact .toStopping_marked _ _ (.inr (.inl h.1))
  next => exact .refl s

theorem BayMoves.takeSilence (b : BayId) (s : State) : BayMoves s (takeSilence b s) := by
  simp only [Machine.takeSilence]
  have idle : BayMoves s (s.mapBay b fun x => { x with silenceTimer := .idle }) := .setBay .silence rfl
  split
  · split
    · exact idle.trans (.speedLost ..)
    · exact idle
  · exact .refl s

theorem BayMoves.takeTachQuiet (b : BayId) (s : State) : BayMoves s (takeTachQuiet b s) := by
  simp only [Machine.takeTachQuiet, Bool.and_eq_true, decide_eq_true_eq]
  split
  next h =>
    split
    · exact .toFaulted _ _ (by simp [turning_iff, h.1])
    · exact (BayMoves.toStopped (.inl h.1)).trans (.queueIfWanted ..)
  next => exact .refl s

theorem BayMoves.takeStopTimeout (b : BayId) (s : State) : BayMoves s (takeStopTimeout b s) := by
  simp only [Machine.takeStopTimeout, Bool.and_eq_true, decide_eq_true_eq]
  split
  next h => exact .toFaulted _ _ (by simp [turning_iff, h.1])
  next => exact .refl s

theorem testPeriod_proven {s : State} {b : BayId} (period : Nat) (h : (s.bay b).state.proven = true) :
    s.testPeriod b period =
      let t := s.mapBay b (·.withOffBand period)
      if (t.bay b).offBand = 3 ∧ (s.bay b).watchArmed = true then t.speedLost b else t := by
  rcases proven_iff.mp h with h | h | h | h <;> simp [State.testPeriod, h]

theorem BayMoves.testPeriod {s : State} (hq : s.queueLawful) (b : BayId) (period : Nat) :
    BayMoves s (s.testPeriod b period) := by
  by_cases hp : (s.bay b).state.proven = true
  · rw [testPeriod_proven period hp]
    have off : BayMoves s (s.mapBay b (·.withOffBand period)) := .setBay (.unlawed rfl) rfl
    dsimp only
    split
    · exact off.trans (.speedLost ..)
    · exact off
  simp only [State.testPeriod]
  split
  next hs =>
    split
    · exact .setBay (.settle _ hs) (by simp [Bay.draw, Bay.enterSettling, Bay.entered, hs])
    · exact .refl s
  next hs =>
    have count : ∀ n, BayMoves s (s.mapBay b fun x => { x with inBand := n }) := fun n => .setBay (.unlawed rfl) rfl
    split
    · split
      · exact (count _).trans (.toSpinningProven ((count _).queueLawful hq) (by rw [mapBay_bay_same]; exact hs))
      · exact count _
    · exact count 0
  iterate 4 exact absurd (by simp [proven_iff, *]) hp
  all_goals exact .refl s

theorem BayMoves.takeTachEdge {s : State} (hq : s.queueLawful) (b : BayId) (us : Nat) :
    BayMoves s (takeTachEdge b us s) := by
  simp only [Machine.takeTachEdge]
  have edge : BayMoves s (s.mapBay b (·.edgeAccepted { ms := s.clock, us := us })) := .setBay (.edge _) rfl
  split
  · split
    · exact edge
    next ref _ =>
      have held := edge.trans
        (.mapBay (b := b) (f := fun x => { x with lastTach := min Config.periodMax (ref.elapsed ⟨s.clock, us⟩) })
          (.unlawed rfl) rfl)
      exact held.trans (.testPeriod (held.queueLawful hq) ..)
  · exact .refl s

/-! ## Commands of the arbiter -/

theorem BayMoves.settings {s : State} (a : Arbiter) (hq : a.queue = s.arbiter.queue)
    (hc : a.charges = s.arbiter.charges)
    (hm : a.mainsBudget = s.arbiter.mainsBudget ∨ 1 ≤ a.mainsBudget ∧ a.mainsBudget ≤ 255)
    (hb : a.batteryBudget = s.arbiter.batteryBudget ∨ 1 ≤ a.batteryBudget ∧ a.batteryBudget ≤ 255) :
    BayMoves s (s.setArbiter a) := (BayMove.settings a hq hc hm hb).moves

theorem BayMoves.takeSpinGate (v : Bool) (s : State) : BayMoves s (takeSpinGate v s) := by
  simp only [Machine.takeSpinGate]
  have set : BayMoves s (s.setArbiter { s.arbiter with gateOpen := v }) := .settings _ rfl rfl (.inl rfl) (.inl rfl)
  split
  · exact set.trans (.evaluate _)
  · exact set

theorem BayMoves.takeSource (src : Source) (s : State) : BayMoves s (takeSource src s) :=
  (BayMoves.settings { s.arbiter with source := src } rfl rfl (.inl rfl) (.inl rfl)).trans (.evaluate _)

theorem BayMoves.takeSpacingExpiry (s : State) : BayMoves s (takeSpacingExpiry s) := by
  simp only [Machine.takeSpacingExpiry]
  split
  · exact (BayMoves.settings { s.arbiter with spacingTimer := .idle } rfl rfl (.inl rfl) (.inl rfl)).trans (.evaluate _)
  · exact .refl s

end Sys2Proof.Machine
end

section
/-! SUPPORT. A whole instruction and a whole step as chains of moves, and what that keeps of bays and charges. -/

namespace Sys2Proof.Machine

/-! ## Descriptors -/

theorem ofRaw_inRange (r : RawDescriptor) : (Descriptor.ofRaw r).inRange := by
  simp only [Descriptor.inRange, Descriptor.ofRaw, clamp]
  omega

/-! ## BAY_SETUP by state and access stored -/

section
variable {s : State} {b : BayId} {d : Descriptor}

/-- An accepted BAY_SETUP: the descriptor is stored, and the bay moved by the access stored (R2, R3). -/
def State.setUp (s : State) (b : BayId) (d : Descriptor) : State :=
  (s.mapBay b (·.withDescriptor d)).applyAccess b d.access

theorem setUp_vacant_absent (hs : (s.bay b).state = .vacant) (ha : d.access = .absent) :
    s.setUp b d = s.setBay b ((s.bay b).withDescriptor d) := by
  simp [State.setUp, mapBay_eq, State.applyAccess, Bay.withDescriptor, hs, ha]

theorem setUp_vacant (hs : (s.bay b).state = .vacant) (ha : d.access ≠ .absent) :
    s.setUp b d = (s.setBay b ({ (s.bay b).withDescriptor d with intent := .off }.enterStopped s.clock)).handOn
      [.noticePost (.bay b) s.clock { b0 := 1, b1 := 0, b2 := 0, b3 := 0 }] := by
  cases h : d.access <;>
    simp_all [State.setUp, mapBay_eq, State.applyAccess, Bay.withDescriptor, toStopped_eq]

/-- VACANT is posted with reason code 0. -/
theorem setUp_absent (hs : (s.bay b).state = .stopped ∨ (s.bay b).state = .faulted) (ha : d.access = .absent) :
    s.setUp b d = (s.setBay b (((s.bay b).withDescriptor d).enterVacant s.clock)).handOn
      [.noticePost (.bay b) s.clock { b0 := 0, b1 := 0, b2 := 0, b3 := 0 }] := by
  rcases hs with hs | hs <;>
    simp [State.setUp, mapBay_eq, State.applyAccess, Bay.withDescriptor, hs, ha, postBay_eq, Bay.enterVacant,
      Bay.entered, Bay.timersIdle, stateCode, reasonCode?]

theorem setUp_stopped_spinOnly (hs : (s.bay b).state = .stopped) (ha : d.access = .spinOnly) :
    s.setUp b d = s.setBay b { (s.bay b).withDescriptor d with
      intent := if (s.bay b).intent = .fly then .spin else (s.bay b).intent } := by
  simp [State.setUp, mapBay_eq, State.applyAccess, Bay.withDescriptor, hs, ha]

theorem setUp_stopped_full (hs : (s.bay b).state = .stopped) (ha : d.access = .full) :
    s.setUp b d = s.setBay b ((s.bay b).withDescriptor d) := by
  simp [State.setUp, mapBay_eq, State.applyAccess, Bay.withDescriptor, hs, ha]

theorem setUp_faulted (hs : (s.bay b).state = .faulted) (ha : d.access ≠ .absent) :
    s.setUp b d = s.setBay b ((s.bay b).withDescriptor d) := by
  cases h : d.access <;> simp_all [State.setUp, mapBay_eq, State.applyAccess, Bay.withDescriptor]

theorem draw_setupAllowed {x : Bay} (h : setupAllowed x.state = true) : x.draw = 0 := by
  rcases setupAllowed_iff.mp h with h | h | h <;> simp [Bay.draw, h]

theorem BayMoves.setUp (hd : d.inRange) (hs : setupAllowed (s.bay b).state = true) : BayMoves s (s.setUp b d) := by
  have hdraw := draw_setupAllowed hs
  have store : ∀ i, ((s.bay b).state = .vacant ↔ d.access = .absent) →
      (i = (s.bay b).intent ∨ (s.bay b).state = .stopped) →
      (i = .fly → (s.bay b).state = .stopped → d.access = .full) →
      BayMoves s (s.setBay b { (s.bay b).withDescriptor d with intent := i }) :=
    fun i hv hi hf => .setBay (.setUp d i hd hs hv hi hf) (by rw [hdraw, draw_setupAllowed]; exact hs)
  by_cases ha : d.access = .absent
  · rcases setupAllowed_iff.mp hs with hs | hs'
    · rw [setUp_vacant_absent hs ha]
      exact store (s.bay b).intent (by simp [hs, ha]) (.inl rfl) (by simp [hs])
    · rw [setUp_absent hs' ha]
      exact (BayMoves.setBay (.vacate d _ hd hs' ha) (by rw [hdraw]; rfl)).trans (.handOn ..)
  · rcases setupAllowed_iff.mp hs with hs | hs | hs
    · rw [setUp_vacant hs ha]
      exact (BayMoves.setBay (.setUpVacant d _ hd hs ha) (by rw [hdraw]; rfl)).trans (.handOn ..)
    · rcases hacc : d.access
      · exact absurd hacc ha
      · rw [setUp_stopped_spinOnly hs hacc]
        refine store _ (by simp [hs, ha]) (.inr hs) fun hi => ?_
        split at hi <;> simp_all
      · rw [setUp_stopped_full hs hacc]
        exact store (s.bay b).intent (by simp [hs, ha]) (.inl rfl) fun _ _ => hacc
    · rw [setUp_faulted hs ha]
      exact store (s.bay b).intent (by simp [hs, ha]) (.inl rfl) (by simp [hs])

end

/-! ## Aims -/

/-- No row of R7 before SAME and ACCEPTED applies, but for NOT_SEATED. -/
def Bay.aimOpen (x : Bay) (target : Intent) : Prop :=
  x.state ≠ .vacant ∧ x.state ≠ .faulted ∧ ¬ (target = .fly ∧ x.desc.access = .spinOnly)

/-- An aim at SPIN or FLY finds a STOPPED bay without its seat. -/
def Bay.aimUnseated (x : Bay) (target : Intent) : Prop := target ≠ .off ∧ x.state = .stopped ∧ x.seated = false

theorem aimOutcome_notSeated_iff {x : Bay} {target : Intent} :
    x.aimOutcome target = .notSeated ↔ x.aimOpen target ∧ x.aimUnseated target := by
  unfold Bay.aimOutcome Bay.aimOpen Bay.aimUnseated
  split_ifs <;> simp_all

theorem aimOutcome_same_iff {x : Bay} {target : Intent} :
    x.aimOutcome target = .same ↔ x.aimOpen target ∧ ¬ x.aimUnseated target ∧ x.intent = target := by
  unfold Bay.aimOutcome Bay.aimOpen Bay.aimUnseated
  split_ifs <;> simp_all

theorem aimOutcome_accepted_iff {x : Bay} {target : Intent} :
    x.aimOutcome target = .accepted ↔ x.aimOpen target ∧ ¬ x.aimUnseated target ∧ x.intent ≠ target := by
  unfold Bay.aimOutcome Bay.aimOpen Bay.aimUnseated
  split_ifs <;> simp_all

theorem BayMoves.actOnAim {s : State} {b : BayId} {target : Intent} (hx : ¬ (s.bay b).aimUnseated target) :
    BayMoves s (s.actOnAim b target) := by
  unfold State.actOnAim
  split
  next hs =>
    split
    next => exact .refl s
    next ht => exact (BayMove.join b hs (by simpa [Bay.aimUnseated, hs, ht] using hx)).moves
  next hs =>
    split
    next =>
      refine BayMoves.trans ?_ (.evaluate _)
      have h := BayMoves.dequeue (s.bay b).seated (s.bay b).seatCount (s.bay b).intent hs (.inr rfl)
      rwa [show s.setBay b { s.bay b with .. } = s from setBay_same s b] at h
    next => exact .refl s
  next hs =>
    split
    next => exact .toStopping (.inl hs)
    next => exact .refl s
  next hs =>
    split
    next => exact .toStopping (.inr (.inl hs))
    next => exact .refl s
  next hs =>
    split
    next => exact .toStopping (.inr (.inr (.inl hs)))
    next => exact .refl s
    next => exact .loadTest ..
  next hs =>
    split
    next => exact .refl s
    next => exact .toUnloading (.inr (.inl hs))
  next hs =>
    split
    next => exact .refl s
    next => exact .toUnloading (.inr (.inr hs))
  all_goals exact .refl s

theorem BayMoves.priorityChanged (s : State) (b : BayId) (old new : Fin 4) :
    BayMoves s (s.priorityChanged b old new) := by
  unfold State.priorityChanged
  split
  · exact .evaluate s
  · exact .refl s

theorem BayMoves.aimBay (s : State) (b : BayId) (target : Intent) (level : Fin 4) :
    BayMoves s (s.aimBay b target level).2 := by
  have aimed : (s.bay b).aimOpen target →
      BayMoves s (s.mapBay b fun x => { x with intent := target, priority := level }) := fun ⟨hv, hf, ha⟩ =>
    .mapBay (.aimed target level hv hf fun ht hs => ha ⟨ht, hs⟩) rfl
  simp only [State.aimBay]
  split
  next => exact .refl s
  next => exact .refl s
  next => exact .refl s
  next h => exact aimed (aimOutcome_notSeated_iff.mp h).1
  next h =>
    refine BayMoves.trans ?_ (.priorityChanged ..)
    exact .mapBay (f := fun x => { x with priority := level }) (.unlawed rfl) rfl
  next h =>
    obtain ⟨ho, hu, -⟩ := aimOutcome_accepted_iff.mp h
    refine (aimed ho).trans ?_
    split
    · exact .priorityChanged ..
    · exact .actOnAim (by rw [mapBay_bay_same]; exact hu)

theorem BayMoves.aimAll (target : Intent) (level : Fin 4) : ∀ (bs : List BayId) (s : State),
    BayMoves s (Machine.aimAll target level bs s).2
  | [], s => .refl s
  | b :: bs, s => (BayMoves.aimBay s b target level).trans (BayMoves.aimAll target level bs _)

theorem BayMoves.clearAll : ∀ (bs : List BayId) (s : State), BayMoves s (Machine.clearAll bs s).2
  | [], s => .refl s
  | b :: bs, s => by
    refine BayMoves.trans (t := (s.clearBay b).2) ?_ (BayMoves.clearAll bs _)
    unfold State.clearBay
    split
    next h => exact .toStopped (.inr h)
    next => exact .refl s

/-! ## Every command -/

theorem BayMoves.of_policy {s t : State} (h : PolicyWork s t) : BayMoves s t := by
  obtain ⟨_, _, rfl⟩ := h
  exact .frame rfl rfl

theorem BayMoves.of_motion {s t : State} (h : MotionWork s t) : BayMoves s t := by
  obtain ⟨_, _, rfl⟩ := h
  exact .frame rfl rfl

theorem BayMoves.setLink (s : State) (l : Link) : BayMoves s (s.setLink l) := .frame rfl rfl

theorem BayMoves.carryOut (r : Request) (s : State) : BayMoves s (carryOut r s).2 := by
  cases r with
  | baySetup bay d =>
    simp only [Machine.carryOut, workBaySetup]
    split
    next => exact .refl s
    next b _ =>
      split
      next hs => exact (BayMoves.setUp (ofRaw_inRange d) hs).trans (.of_policy (.policyTable ..))
      next => exact .refl s
  | bayAim bays target priority =>
    simp only [Machine.carryOut, workBayAim]
    split
    · exact .refl s
    · exact .aimAll ..
  | bayClear bays =>
    simp only [Machine.carryOut, workBayClear]
    split
    · exact .refl s
    · exact .clearAll ..
  | bayQuery bay => simp only [Machine.carryOut, workBayQuery]; split <;> exact .refl s
  | bayDescribe bay => simp only [Machine.carryOut, workBayDescribe]; split <;> exact .refl s
  | motionSetup r => exact .of_motion (.motionSetup ..)
  | powerSetup r =>
    have set : BayMoves s ((s.setArbiter (s.arbiter.withSettings r)).setSupply (s.supply.withSettings r)) :=
      (BayMoves.settings (s.arbiter.withSettings r) rfl rfl (.inr ⟨le_clamp, clamp_le (by decide)⟩)
        (.inr ⟨le_clamp, clamp_le (by decide)⟩)).trans (.frame rfl rfl)
    exact set.trans (.evaluate _)
  | powerQuery =>
    simp only [Machine.carryOut, workPowerQuery]
    split
    · exact .frame rfl rfl
    · exact .refl s
  | caseSetup r => exact .of_policy (.caseSetup ..)
  | noticeMask mask => exact .frame rfl rfl
  | noticeFetch =>
    simp only [Machine.carryOut, workNoticeFetch]
    split
    · exact .refl s
    · exact .frame rfl rfl
  | faultRead =>
    simp only [Machine.carryOut, workFaultRead]
    split
    · exact .refl s
    · exact .frame rfl rfl
  | ident | restart | motionQuery | trace | episodes | caseQuery | noticeStatus => exact .refl s

theorem BayMoves.dispatch (s : State) (item : Item) : BayMoves s (s.dispatch item) := by
  cases item with
  | request r =>
    exact ((BayMoves.of_policy (.acceptedRequest s)).trans (.carryOut r _)).trans (.frame rfl rfl)
  | badSize kind => exact (BayMoves.of_policy (.acceptedRequest s)).trans (.frame rfl rfl)
  | linkError code detail => exact .frame rfl rfl

theorem BayMoves.itemMade (s : State) (item : Item) : BayMoves s (s.itemMade item) := by
  unfold State.itemMade
  split
  · exact .dispatch ..
  · split <;> exact .frame rfl rfl

theorem BayMoves.receive (s : State) (c : Byte) : BayMoves s (s.receive c) := by
  have hunts : ∀ item, BayMoves s (s.hunts.itemMade item) := fun item =>
    (BayMoves.setLink ..).trans (.itemMade s.hunts item)
  unfold State.receive
  split <;> split
  · exact .frame rfl rfl
  · exact .refl s
  · exact .frame rfl rfl
  · exact hunts _
  · exact .frame rfl rfl
  · split <;> exact hunts _

theorem BayMoves.takeCharacter (data : Byte) (stopHigh : Bool) (s : State) :
    BayMoves s (takeCharacter data stopHigh s) := by
  unfold Machine.takeCharacter
  split
  · exact (BayMoves.setLink ..).trans (.receive ..)
  · exact .refl s

theorem BayMoves.takeGap (s : State) : BayMoves s (takeGap s) := by
  unfold Machine.takeGap
  split
  · exact (BayMoves.setLink ..).trans (.itemMade s.hunts _)
  · exact .refl s

theorem BayMoves.takeEndOfReply (s : State) : BayMoves s (takeEndOfReply s) := by
  unfold Machine.takeEndOfReply
  split
  · exact .refl s
  · refine BayMoves.trans (BayMoves.frame ?_ ?_) (.of_policy (.restartSupervision _)) <;> rfl
  · split
    · exact .frame rfl rfl
    · exact (BayMoves.setLink ..).trans (.dispatch ..)

theorem BayMoves.takeCapture (c : Capture) (s : State) : BayMoves s (takeCapture c s) := by
  unfold Machine.takeCapture
  split <;> exact .frame rfl rfl

theorem BayMoves.takeLapse (s : State) : BayMoves s (takeLapse s) := by
  unfold Machine.takeLapse
  split
  · refine BayMoves.trans (BayMoves.frame ?_ ?_) (.of_policy (.reevaluate _)) <;> rfl
  · exact .refl s

theorem BayMoves.fullReset (s : State) (phase : Phase) (cause : ResetCause) :
    BayMoves s (State.fullReset phase cause s.inputs s.drawn s.pending) := (BayMove.reset rfl rfl).moves

theorem BayMoves.takeResetRelease (s : State) : BayMoves s (takeResetRelease s) := by
  unfold Machine.takeResetRelease
  split
  · exact .fullReset ..
  · exact .refl s
  · exact .refl s

theorem BayMoves.takeStartUpEnd (s : State) : BayMoves s (takeStartUpEnd s) := by
  unfold Machine.takeStartUpEnd
  split
  · exact .refl s
  · split
    · exact .frame rfl rfl
    · exact .refl s
  · exact .refl s

theorem BayMoves.tick (s : State) : BayMoves s s.tick := by
  unfold State.tick
  split
  · exact .refl s
  · exact .frame rfl rfl
  · refine BayMoves.trans (t := s.sampled) (BayMove.keep (s := s) (t := s.sampled) (fun b => ?_) rfl).moves
      (.handOn ..)
    rw [sampled_bay]
    exact ⟨.unlawed rfl, rfl⟩

theorem BayMoves.event {s t : State} {c : Instr} {f : State → State} (h : s.event c f = .next t)
    (hf : BayMoves (s.taken c) (f (s.taken c))) : BayMoves s t := by
  rcases event_next h with ⟨-, rfl⟩ | ⟨-, rfl⟩
  · exact (BayMoves.taken s c).trans hf
  · exact .taken s c

/-- Every command is a chain of moves. -/
theorem BayMoves.exec {s t : State} (hq : s.queueLawful) (c : Instr) (h : exec c s = .next t) : BayMoves s t := by
  cases c with
  | ident | restart | baySetup | bayAim | bayClear | bayQuery | bayDescribe | motionSetup | motionQuery | trace
  | episodes | powerSetup | powerQuery | caseSetup | caseQuery | noticeMask | noticeFetch | noticeStatus | faultRead =>
    exact .event h (.itemMade ..)
  | characterReception => exact .event h (.takeCharacter ..)
  | gapError => exact .event h (.takeGap _)
  | endOfReply => exact .event h (.takeEndOfReply _)
  | powerOn | brownout | pinReset => cases h; exact .fullReset s _ _
  | resetRelease => cases h; exact (BayMoves.taken s _).trans (.takeResetRelease _)
  | startUpIntervalEnd => cases h; exact (BayMoves.taken s _).trans (.takeStartUpEnd _)
  | unseat => exact .event h (.takeUnseat ..)
  | reseat => exact .event h (.takeReseat ..)
  | prkRelease => exact .event h (.takePrkRelease ..)
  | prkAssertion => exact .event h (.takePrkAssertion ..)
  | unloadGuardExpiry => exact .event h (.takeGuardExpiry ..)
  | unloadCompletion => exact .event h (.takeCompletionTest ..)
  | tachEdge => exact .event h (.takeTachEdge ((BayMoves.taken s _).queueLawful hq) ..)
  | rampStep => exact .event h (.takeRampStep ..)
  | spinupTimeout => exact .event h (.takeSpinupTimeout ..)
  | settleTimeout => exact .event h (.takeSettleTimeout ..)
  | silenceTimerExpiry => exact .event h (.takeSilence ..)
  | tachQuiet => exact .event h (.takeTachQuiet ..)
  | stopTimeout => exact .event h (.takeStopTimeout ..)
  | loadTimeout => exact .event h (.takeLoadTimeout ..)
  | unloadTimeout => exact .event h (.takeUnloadTimeout ..)
  | forcedUnloadOrder => exact .event h (.takeForcedUnload ..)
  | stopOrder => exact .event h (.takeStopOrder ..)
  | stopOrderLift => exact .event h (.takeStopOrderLift ..)
  | loadPermissionReport => exact .event h (.takeLoadPermission ..)
  | spinGateReport => exact .event h (.takeSpinGate ..)
  | sourceReport => exact .event h (.takeSource ..)
  | spacingTimerExpiry => exact .event h (.takeSpacingExpiry _)
  | drdyEdge => exact .event h (.of_motion (.takeDrdy _))
  | identityReadComplete => exact .event h (.of_motion (.takeIdentity ..))
  | setupWindowExpiry => exact .event h (.of_motion (.takeWindowExpiry _))
  | retryTimerExpiry => exact .event h (.of_motion (.takeRetryExpiry _))
  | drdyWatchExpiry => exact .event h (.of_motion (.takeWatchExpiry _))
  | sampleArrival => exact .event h (.of_motion (.takeArrival ..))
  | quietTimerExpiry => exact .event h (.of_motion (.takeQuietExpiry _))
  | quietRestartRequest => exact .event h (.of_motion (.takeQuietRestart _))
  | unloadReport => exact .event h (.of_motion (.takeUnloadReport _))
  | strandingReport => exact .event h (.of_motion (.takeStrandingReport _))
  | motionVerdictHandoff => exact .event h (.of_policy (.takeVerdict ..))
  | supplyStateReport => exact .event h (.of_policy (.takeSupplyState ..))
  | caseInputAssertion => exact .event h (.of_policy (.takeAssertion ..))
  | caseInputRelease => exact .event h (.of_policy (.takeRelease ..))
  | supervisionLapse => exact .event h (.takeLapse _)
  | supplySample => exact .event h (.frame rfl rfl)
  | faultCapture => exact .event h (.takeCapture ..)
  | noticePost => exact .event h (.frame rfl rfl)
  | pwmPeriodBoundary => exact .event h (.takePwmBoundary ..)

/-- Every step is a chain of moves. -/
theorem step_bayMoves {s t : State} (hq : s.queueLawful) (h : step s = .next t) : BayMoves s t := by
  unfold step at h
  split at h
  next c rest _ =>
    exact (BayMoves.frame (s := s) (t := { s with pending := rest }) rfl rfl).trans (.exec hq c h)
  next =>
    split at h
    next => exact .exec hq _ h
    next => cases h; exact .tick s

theorem step_queueLawful {s t : State} (hq : s.queueLawful) (h : step s = .next t) : t.queueLawful :=
  (step_bayMoves hq h).queueLawful hq

/-- A law of one bay's record that moves keep, steps keep. -/
theorem BayLaw.moves {P : Bay → Prop} (law : BayLaw P) {s t : State} (m : BayMoves s t) (h : s.allBays P) :
    t.allBays P := by
  induction m with
  | refl => exact h
  | tail _ m ih => exact law.move m ih

theorem BayLaw.step {P : Bay → Prop} (law : BayLaw P) {s t : State} (hq : s.queueLawful) (hp : ∀ b, P (s.bay b))
    (h : step s = .next t) : ∀ b, P (t.bay b) :=
  (law.moves (step_bayMoves hq h) ⟨hq, hp⟩).2

theorem BayMoves.chargesLawful {s t : State} (m : BayMoves s t) (h : s.chargesLawful) : t.chargesLawful := by
  induction m with
  | refl => exact h
  | tail _ m ih => exact m.chargesLawful ih

/-- Settles O33: a step is a chain of moves, and each move keeps the queue and every law of a bay's record. -/
theorem stepsKeepBaysLawful : Obligations.StepsKeepBaysLawful :=
  ⟨fun _ _ ⟨hq, hb⟩ h => ⟨step_queueLawful hq h, bayLaw_lawful.step hq hb h⟩,
    fun _ _ hq ho h => bayLaw_outputsFollow.step hq ho h⟩

/-- Settles O34, through the same chain of moves. -/
theorem stepsKeepChargesOnStates : Obligations.StepsKeepChargesOnStates :=
  fun _ _ hq hc h => (step_bayMoves hq h).chargesLawful hc

end Sys2Proof.Machine
end

section
/-! SUPPORT. Aims, clears and grants: what each leaves alone, and the statements about them. -/

namespace Sys2Proof.Machine

/-! ## Grants (R13, R71, R77 to R79, R82, R139) -/

/-- The arbiter's side of a grant, its two choices as conditions. -/
theorem granted_eq (a : Arbiter) (b : BayId) (peak : Nat) (level : Fin 4) (now : Clock) :
    a.granted b peak level now =
      { a with
        queue := a.queue.filter (· ≠ b)
        charges := putBay a.charges b peak
        pointers := if a.mode = .rotate then a.pointers.set level.val (b + 1) level.isLt else a.pointers
        spacingTimer := if 0 < a.spacing then .after now (a.spacing * 10) else a.spacingTimer } := by
  unfold Arbiter.granted
  congr 1
  · cases a.mode <;> rfl
  · simp only [Nat.pos_iff_ne_zero, ite_not]

/-- A charge raises C by no more than its own value. -/
theorem committed_putBay_le (a : Arbiter) (b : BayId) (x : Nat) :
    (bayIds.map (atBay (putBay a.charges b x))).sum ≤ a.committed + x := by
  have := sum_putBay a.charges b x
  unfold Arbiter.committed
  omega

theorem mayGrant_eq_false {a : Arbiter} : a.mayGrant = false ↔ a.gateOpen = false ∨ a.spacingTimer ≠ .idle := by
  rw [← Bool.not_eq_true, mayGrant_iff]
  simp [imp_iff_not_or]

/-- With spacing above 0 a grant ends its evaluation: the spacing timer runs (R79, R82). -/
theorem evaluate_grant_spacing {s : State} (b : BayId) (h : 0 < s.arbiter.spacing) : (s.grant b).evaluate = s.grant b :=
  evaluate_closed (mayGrant_eq_false.mpr (.inr (by simp [grant_eq, Nat.pos_iff_ne_zero.mp h])))

/-- Settles O37. -/
theorem evaluationsGrantWithinTheBudget : Obligations.EvaluationsGrantWithinTheBudget := by
  refine ⟨fun s b => ⟨fits_iff, fun hx => ?_, fun hx => ?_, fun hf => ⟨?_, ?_⟩⟩,
    fun s => ⟨fun h => evaluate_closed (mayGrant_eq_false.mpr h), evaluate_empty, fun b => evaluate_blocked,
      fun b hg ht hc hf => ?_⟩⟩
  · rw [grant_eq, Bay.granted, Arbiter.afterGrant, granted_eq]
    simp [hx]
  · rw [grant_eq, Bay.granted, Arbiter.afterGrant, granted_eq]
    simp [hx]
  · exact (committed_putBay_le ..).trans (fits_iff.mp hf)
  · rw [grant_eq, setArbiter_arbiter, Arbiter.committed, afterGrant_charges]
    refine (committed_putBay_le ..).trans (le_trans ?_ (fits_iff.mp hf))
    split <;> omega
  · have hgrant := evaluate_grant (mayGrant_iff.mpr ⟨hg, ht⟩) hc hf
    exact ⟨hgrant, fun hs => hgrant.trans (evaluate_grant_spacing b hs)⟩

/-! ## Clears (R21) -/

/-- The outcome of a clear for a bay (R21). -/
def Bay.clearOutcome (x : Bay) : BayOutcome := if x.state = .faulted then .accepted else .same

/-- The bays of a list that a clear releases. -/
def State.faultedOf (s : State) (bs : List BayId) : List BayId := bs.filter fun b => decide ((s.bay b).state = .faulted)

/-- The part after a clear of the bays of a list: its FAULTED bays STOPPED, one notice for each (R21). -/
def State.cleared (s : State) (bs : List BayId) : State :=
  { s with
    bays := tableOf fun i => if i ∈ s.faultedOf bs then (s.bay i).enterStopped s.clock else s.bay i
    inFlight := s.inFlight ++
      (s.faultedOf bs).map fun b => .noticePost (.bay b) s.clock { b0 := 1, b1 := 0, b2 := 0, b3 := 0 } }

@[simp] theorem cleared_bay (s : State) (bs : List BayId) (i : BayId) :
    (s.cleared bs).bay i = if i ∈ s.faultedOf bs then (s.bay i).enterStopped s.clock else s.bay i := atBay_tableOf ..

theorem cleared_of_not_mem {s : State} {bs : List BayId} {i : BayId} (h : i ∉ bs) : (s.cleared bs).bay i = s.bay i := by
  rw [cleared_bay, if_neg]
  exact fun hm => h (List.mem_of_mem_filter hm)

theorem cleared_faulted {s : State} {b : BayId} (h : (s.bay b).state = .faulted) : s.cleared [b] = s.toStopped b := by
  rw [toStopped_eq]
  have hf : s.faultedOf [b] = [b] := by simp [State.faultedOf, h]
  have hb : (tableOf fun i => if i ∈ [b] then (s.bay i).enterStopped s.clock else s.bay i) =
      putBay s.bays b ((s.bay b).enterStopped s.clock) := by
    refine table_ext fun i => ?_
    rw [atBay_tableOf, atBay_putBay]
    simp only [List.mem_singleton]
    split
    next hi => rw [hi]
    next => rfl
  unfold State.cleared
  rw [hf, hb]
  rfl

theorem cleared_none {s : State} {bs : List BayId} (h : ∀ b ∈ bs, (s.bay b).state ≠ .faulted) : s.cleared bs = s := by
  have hf : s.faultedOf bs = [] := by simpa [State.faultedOf] using h
  have hb : (tableOf fun i => s.bay i) = s.bays := table_ext fun i => atBay_tableOf ..
  simp [State.cleared, hf, hb]

theorem clearBay_eq (s : State) (b : BayId) : s.clearBay b = ((s.bay b).clearOutcome, s.cleared [b]) := by
  unfold State.clearBay Bay.clearOutcome
  split
  next h => rw [cleared_faulted h]
  next h => rw [cleared_none (by simpa using h)]

/-- One bay cleared and then others is all of them cleared. -/
theorem cleared_cons {s : State} {b : BayId} {bs : List BayId} (h : b ∉ bs) :
    (s.cleared [b]).cleared bs = s.cleared (b :: bs) := by
  have same : ∀ i ∈ bs, (s.cleared [b]).bay i = s.bay i := fun i hi =>
    cleared_of_not_mem (by simpa using fun e : i = b => h (e ▸ hi))
  have hf : (s.cleared [b]).faultedOf bs = s.faultedOf bs := List.filter_congr fun i hi => by rw [same i hi]
  have hcons : s.faultedOf (b :: bs) = s.faultedOf [b] ++ s.faultedOf bs := by
    simp only [State.faultedOf, ← List.filter_append, List.singleton_append]
  have hb : ((s.cleared [b]).cleared bs).bays = (s.cleared (b :: bs)).bays := by
    refine table_ext fun i => ?_
    change ((s.cleared [b]).cleared bs).bay i = (s.cleared (b :: bs)).bay i
    simp only [cleared_bay _ bs, cleared_bay s (b :: bs), hf, hcons, List.mem_append]
    by_cases hi : i ∈ s.faultedOf bs
    · simp only [hi, if_true, or_true, same i (List.mem_of_mem_filter hi)]
      rfl
    · simp only [hi, if_false, or_false, cleared_bay]
  have hl : ((s.cleared [b]).cleared bs).inFlight = (s.cleared (b :: bs)).inFlight := by
    change (s.cleared [b]).inFlight ++ ((s.cleared [b]).faultedOf bs).map _ =
      s.inFlight ++ (s.faultedOf (b :: bs)).map _
    rw [hf, hcons, List.map_append, ← List.append_assoc]
    rfl
  calc (s.cleared [b]).cleared bs
      = { s with bays := ((s.cleared [b]).cleared bs).bays, inFlight := ((s.cleared [b]).cleared bs).inFlight } := rfl
    _ = s.cleared (b :: bs) := by rw [hb, hl]; rfl

/-- A clear of each bay of a list without repetition. -/
theorem clearAll_eq : ∀ (bs : List BayId) (s : State), bs.Nodup →
    clearAll bs s = (bs.map fun b => (s.bay b).clearOutcome, s.cleared bs)
  | [], s, _ => by rw [cleared_none (by simp)]; rfl
  | b :: bs, s, h => by
    obtain ⟨hb, hbs⟩ := List.nodup_cons.mp h
    have same : ∀ i ∈ bs, ((s.cleared [b]).bay i).clearOutcome = (s.bay i).clearOutcome := fun i hi => by
      rw [cleared_of_not_mem (by simpa using fun e : i = b => hb (e ▸ hi))]
    simp only [clearAll, clearBay_eq, clearAll_eq bs _ hbs, List.map_cons, List.map_congr_left same, cleared_cons hb]

theorem exec_bayClear {s : State} (h : s.canAnswer) (bays : Half) :
    exec (.bayClear bays) s =
      let a := workBayClear bays (s.taken (.bayClear bays)).acceptedRequest
      .next (a.2.sendReply 0x92 a.1.result a.1.clamped a.1.payload false) := request_answered h.1 h.2 _ _

/-- Settles O21, by `clearAll_eq`: a set names each bay once. -/
theorem clearsReleaseFaultedBaysAlone : Obligations.ClearsReleaseFaultedBaysAlone := by
  intro bays s ha
  refine ⟨fun h => ?_, fun h => ?_⟩
  · rw [exec_bayClear ha, workBayClear, baysOf_none h]
    rfl
  · intro set faulted
    let s1 := (s.taken (.bayClear bays)).acceptedRequest
    have hbay : ∀ b, s1.bay b = s.bay b := fun b => by simp [s1]
    have hclock : s1.clock = s.clock := by simp [s1]
    have hf : s1.faultedOf set = faulted := by simp only [State.faultedOf, hbay, faulted]
    have hout : ∀ b, outcomeCode (s1.bay b).clearOutcome = if (s.bay b).state = .faulted then 0 else 1 := fun b => by
      simp only [hbay, Bay.clearOutcome, apply_ite outcomeCode]
      rfl
    refine ⟨s1.cleared set, ?_, fun b => ?_, ?_⟩
    · have hall : clearAll set s1 = _ := clearAll_eq set s1 (nodup_bayIds.filter _)
      rw [exec_bayClear ha, workBayClear, baysOf_some h]
      simp only [Answer.okay]
      rw [hall, List.map_map, Function.comp_def]
      simp only [hout]
    · rw [cleared_bay]
      simp only [hf, hbay, hclock]
    · unfold State.cleared
      rw [hf]
      simp only [s1, accepted_clock, taken_clock]

end Sys2Proof.Machine
end

section
/-! SUPPORT. Aims (R6 to R9). -/

namespace Sys2Proof.Machine

/-! ## Target and priority as written -/

theorem targetOf_eq (t : Byte) : targetOf t = if t = 0 then .off else if t = 1 then .spin else .fly := by
  unfold targetOf
  simp only [BitVec.toNat_eq]
  split <;> simp_all

theorem priorityOf_val (p : Byte) : (priorityOf p).val = min p.toNat 3 := by
  unfold priorityOf
  split <;> simp_all
  omega

/-! ## What an aim leaves alone -/

/-- What an aim of another bay leaves of a bay: intent, priority, descriptor. -/
def Bay.standing (x : Bay) : Intent × Fin 4 × Descriptor := (x.intent, x.priority, x.desc)

theorem granted_standing (x : Bay) (now : Clock) : (x.granted now).standing = x.standing := by
  unfold Bay.granted
  split <;> rfl

theorem evaluate_standing (s : State) (i : BayId) : (s.evaluate.bay i).standing = (s.bay i).standing := by
  rcases evaluate_bay s i with h | ⟨-, -, h⟩ <;> rw [h]
  exact granted_standing ..

theorem reportDraw_standing (s : State) (b : BayId) (charge : Nat) (i : BayId) :
    ((s.reportDraw b charge).bay i).standing = (s.bay i).standing := by
  rcases reportDraw_bay s b i charge with h | ⟨-, -, h⟩ <;> rw [h]
  exact granted_standing ..

theorem setBay_standing {s : State} {b : BayId} {y : Bay} (h : y.standing = (s.bay b).standing) (i : BayId) :
    ((s.setBay b y).bay i).standing = (s.bay i).standing := by
  rw [setBay_bay]
  split
  next hi => rw [h, hi]
  next => rfl

theorem mapBay_standing (s : State) (b : BayId) (f : Bay → Bay) (h : ∀ x : Bay, (f x).standing = x.standing)
    (i : BayId) : ((s.mapBay b f).bay i).standing = (s.bay i).standing := setBay_standing (h _) i

theorem toStopping_standing (s : State) (b i : BayId) : ((s.toStopping b).bay i).standing = (s.bay i).standing :=
  (reportDraw_standing ..).trans (mapBay_standing s b (·.enterStopping s.clock) (fun _ => rfl) i)

theorem toUnloading_standing (s : State) (b i : BayId) : ((s.toUnloading b).bay i).standing = (s.bay i).standing :=
  mapBay_standing s b (·.enterUnloading s.clock) (fun _ => rfl) i

theorem toStopped_standing (s : State) (b i : BayId) : ((s.toStopped b).bay i).standing = (s.bay i).standing :=
  mapBay_standing s b (·.enterStopped s.clock) (fun _ => rfl) i

theorem joinQueue_standing (s : State) (b i : BayId) : ((s.joinQueue b).bay i).standing = (s.bay i).standing :=
  (evaluate_standing ..).trans (mapBay_standing s b (·.enterQueued s.clock) (fun _ => rfl) i)

theorem loadTest_standing (s : State) (b i : BayId) : ((s.loadTest b).bay i).standing = (s.bay i).standing := by
  rw [loadTest_eq]
  split
  · exact mapBay_standing s b (·.enterLoading s.clock) (fun _ => rfl) i
  · rfl

theorem actOnAim_standing (s : State) (b : BayId) (target : Intent) (i : BayId) :
    ((s.actOnAim b target).bay i).standing = (s.bay i).standing := by
  unfold State.actOnAim
  split
  · split
    · rfl
    · exact joinQueue_standing ..
  · split
    · exact (evaluate_standing ..).trans (toStopped_standing (s.unqueue b) b i)
    · rfl
  iterate 2
    split
    · exact toStopping_standing ..
    · rfl
  · split
    · exact toStopping_standing ..
    · rfl
    · exact loadTest_standing ..
  iterate 2
    split
    · rfl
    · exact toUnloading_standing ..
  all_goals rfl

theorem priorityChanged_standing (s : State) (b : BayId) (old new : Fin 4) (i : BayId) :
    ((s.priorityChanged b old new).bay i).standing = (s.bay i).standing := by
  unfold State.priorityChanged
  split
  · exact evaluate_standing ..
  · rfl

/-! ## The outcomes (R7) -/

section
variable {s : State} {b : BayId} {target : Intent} {level : Fin 4}

theorem aimBay_vacant (h : (s.bay b).state = .vacant) : s.aimBay b target level = (.vacant, s) := by
  simp [State.aimBay, Bay.aimOutcome, h]

theorem aimBay_faulted (h : (s.bay b).state = .faulted) : s.aimBay b target level = (.faulted, s) := by
  simp [State.aimBay, Bay.aimOutcome, h]

theorem aimBay_access (hv : (s.bay b).state ≠ .vacant) (hf : (s.bay b).state ≠ .faulted) (ht : target = .fly)
    (ha : (s.bay b).desc.access = .spinOnly) : s.aimBay b target level = (.access, s) := by
  simp [State.aimBay, Bay.aimOutcome, hv, hf, ht, ha]

theorem aimBay_notSeated (h : (s.bay b).aimOutcome target = .notSeated) :
    s.aimBay b target level = (.notSeated, s.setBay b { s.bay b with intent := target, priority := level }) := by
  simp only [State.aimBay, h]
  rfl

theorem aimBay_same (h : (s.bay b).aimOutcome target = .same) :
    s.aimBay b target level =
      (.same, (s.setBay b { s.bay b with priority := level }).priorityChanged b (s.bay b).priority level) := by
  simp only [State.aimBay, h]
  rfl

/-- An ACCEPTED aim sets intent and priority, and then acts by the bay's state. -/
theorem aimBay_accepted (h : (s.bay b).aimOutcome target = .accepted) :
    s.aimBay b target level =
      (.accepted,
        let s0 := s.setBay b { s.bay b with intent := target, priority := level }
        if (s.bay b).state = .queued ∧ target ≠ .off then s0.priorityChanged b (s.bay b).priority level
        else s0.actOnAim b target) := by
  simp only [State.aimBay, h, Bool.and_eq_true, decide_eq_true_eq]
  split <;> rfl

end

/-- After an aim that is not refused every bay stands as it stood, but for the aimed bay's intent and priority. -/
theorem aimBay_accepted_standing {s : State} {b : BayId} {target : Intent} (level : Fin 4)
    (h : (s.bay b).aimOutcome target = .accepted) (i : BayId) :
    ((s.aimBay b target level).2.bay i).standing =
      ((s.setBay b { s.bay b with intent := target, priority := level }).bay i).standing := by
  rw [aimBay_accepted h]
  dsimp only
  split
  · exact priorityChanged_standing ..
  · exact actOnAim_standing ..

theorem aimBay_same_standing {s : State} {b : BayId} {target : Intent} (level : Fin 4)
    (h : (s.bay b).aimOutcome target = .same) (i : BayId) :
    ((s.aimBay b target level).2.bay i).standing =
      ((s.setBay b { s.bay b with priority := level }).bay i).standing := by
  rw [aimBay_same h]
  exact priorityChanged_standing ..

/-- An aim leaves the standing of every other bay. -/
theorem aimBay_standing_ne (s : State) {b i : BayId} (target : Intent) (level : Fin 4) (hi : i ≠ b) :
    ((s.aimBay b target level).2.bay i).standing = (s.bay i).standing := by
  rcases h : (s.bay b).aimOutcome target
  · rw [aimBay_accepted_standing level h, setBay_bay_ne _ _ hi]
  · rw [aimBay_same_standing level h, setBay_bay_ne _ _ hi]
  · simp only [State.aimBay, h]
  · rw [aimBay_notSeated h, setBay_bay_ne _ _ hi]
  · simp only [State.aimBay, h]
  · simp only [State.aimBay, h]

theorem exec_bayAim {s : State} (h : s.canAnswer) (bays : Half) (target priority : Byte) :
    exec (.bayAim bays target priority) s =
      let a := workBayAim bays target priority (s.taken (.bayAim bays target priority)).acceptedRequest
      .next (a.2.sendReply 0x91 a.1.result a.1.clamped a.1.payload false) := request_answered h.1 h.2 _ _

/-- Settles O19: the outcomes by `aimOutcome`, the standing of every bay through what an aim does at once. -/
theorem aimsFollowTheOutcomeTable : Obligations.AimsFollowTheOutcomeTable := by
  refine ⟨fun o => by cases o <;> rfl, ⟨fun bays target priority s ha => ⟨fun h => ?_, fun h => ?_⟩,
    fun goal level s => ⟨rfl, fun _ _ => rfl⟩⟩, fun b target level s => ?_⟩
  · rw [exec_bayAim ha, workBayAim, baysOf_none h]
    rfl
  · refine ⟨targetOf target, priorityOf priority, targetOf_eq target, priorityOf_val priority, ?_⟩
    rw [exec_bayAim ha, workBayAim, baysOf_some h]
  · intro r x open1 open2 open3
    have same_iff : open3 → x.aimOpen target ∧ ¬ x.aimUnseated target := fun ⟨⟨⟨hv, hf⟩, ha⟩, hu⟩ => ⟨⟨hv, hf, ha⟩, hu⟩
    refine ⟨aimBay_vacant, aimBay_faulted, fun ⟨hv, hf⟩ ht ha => aimBay_access hv hf ht ha, ?_, ?_, ?_, ?_⟩
    · intro ⟨⟨hv, hf⟩, ha⟩ ht hs hx
      exact aimBay_notSeated (aimOutcome_notSeated_iff.mpr ⟨⟨hv, hf, ha⟩, ht, hs, hx⟩)
    · intro ho hi
      have h := aimOutcome_same_iff.mpr ⟨(same_iff ho).1, (same_iff ho).2, hi⟩
      have hst := aimBay_same_standing level h b
      rw [setBay_bay_same] at hst
      simp only [Bay.standing, Prod.mk.injEq] at hst
      exact ⟨congrArg Prod.fst (aimBay_same h), hst.1.trans hi, hst.2.1⟩
    · intro ho hi
      have h := aimOutcome_accepted_iff.mpr ⟨(same_iff ho).1, (same_iff ho).2, hi⟩
      have hst := aimBay_accepted_standing level h b
      rw [setBay_bay_same] at hst
      simp only [Bay.standing, Prod.mk.injEq] at hst
      exact ⟨congrArg Prod.fst (aimBay_accepted h), hst.1, hst.2.1⟩
    · intro i hi
      have hst := aimBay_standing_ne s target level hi
      simpa only [Bay.standing, Prod.mk.injEq] using hst

/-! ## What an ACCEPTED aim does at once (R8) -/

theorem aimOutcome_of_accepted {s : State} {b : BayId} {target : Intent} {level : Fin 4}
    (h : (s.aimBay b target level).1 = .accepted) : (s.bay b).aimOutcome target = .accepted := by
  rcases ho : (s.bay b).aimOutcome target <;> simp_all [State.aimBay]

/-- Settles O20: `aimBay_accepted` puts intent and priority into the bay, and `actOnAim` goes by its state. -/
theorem acceptedAimsActByState : Obligations.AcceptedAimsActByState := by
  intro b target level s hacc
  have h := aimOutcome_of_accepted hacc
  rw [aimBay_accepted h]
  intro t x y s0 stopping
  have hbay : s0.bay b = y := setBay_bay_same ..
  have act : x.state ≠ .queued ∨ target = .off → t = s0.actOnAim b target := fun hn => by
    have : ¬ (x.state = .queued ∧ target ≠ .off) := by tauto
    simp only [t, x] at this ⊢
    rw [if_neg this]
  have prio : x.state = .queued → target ≠ .off → t = s0.priorityChanged b x.priority level := fun hs ht =>
    if_pos ⟨hs, ht⟩
  have hstate : y.state = x.state := rfl
  refine ⟨fun hs ht => ?_, fun hs ht => ?_, fun hs ht => ?_, fun hs ht hp => ?_, fun hs ht hp => ?_, fun hs ht => ?_,
    fun hs ht => ?_, fun hs ht => ?_, fun hs ht => ?_, fun hs ht => ?_, fun hs ht => ?_, fun hs => ?_⟩
  · rw [act (by simp [hs])]
    simp [State.actOnAim, hbay, hstate, hs, ht, joinQueue_eq, s0]
  · rw [act (.inr ht)]
    simp [State.actOnAim, hbay, hstate, hs, ht]
  · rw [act (.inr ht)]
    simp [State.actOnAim, hbay, hstate, hs, ht, State.unqueue, toStopped_eq, s0]
  · rw [prio hs ht]
    simp [State.priorityChanged, hbay, hstate, hs, hp]
  · rw [prio hs ht]
    simp [State.priorityChanged, hp]
  · rcases hs with hs | hs | hs <;> rw [act (.inr ht)] <;>
      simp [State.actOnAim, hbay, hstate, hs, ht, toStopping_eq, s0, stopping]
  · rcases hs with hs | hs <;> rw [act (by simp [hs])] <;> simp [State.actOnAim, hbay, hstate, hs, ht]
  · rw [act (by simp [hs])]
    simp [State.actOnAim, hbay, hstate, hs, ht]
  · rw [act (by simp [hs])]
    have hready : y.readyToLoad = true ↔ x.loadPermission = true ∧ x.prkLevel = true := by
      simp [readyToLoad_iff, hs, ht, y]
    simp only [State.actOnAim, hbay, hstate, hs, ht, loadTest_eq, hready]
    simp [s0]
  · rcases hs with hs | hs <;> rw [act (by simp [hs])] <;>
      simp [State.actOnAim, hbay, hstate, hs, ht, toUnloading_eq, s0]
  · rcases hs with hs | hs <;> rw [act (by simp [hs])] <;> simp [State.actOnAim, hbay, hstate, hs, ht]
  · rcases hs with hs | hs <;> rw [act (by simp [hs])] <;> simp [State.actOnAim, hbay, hstate, hs]

end Sys2Proof.Machine
end

section
/-! SUPPORT. Reset, descriptors, BAY_SETUP and the two bay queries. -/

namespace Sys2Proof.Machine

/-! ## The reset state (R28, R47, R67, R87, R108, R130, R152, R163, R188, R206, R210) -/

@[simp] theorem reset_bay (b : BayId) : State.reset.bay b = .reset := atBay_replicate ..

theorem reset_queueLawful : State.reset.queueLawful :=
  ⟨List.nodup_nil, fun b => by rw [reset_bay]; simp [State.reset, State.fullReset, Arbiter.reset, Bay.reset]⟩

theorem reset_link_lawful : Link.reset.lawful := by
  refine ⟨⟨fun _ => rfl, fun _ => rfl⟩, ?_, ?_, ?_⟩
  · rintro _ _ _ ⟨⟩
  · rintro ⟨⟩
  · rintro _ _ ⟨⟩

theorem reset_chargesLawful : State.reset.chargesLawful := by
  refine ⟨fun b => ?_, by decide, by decide, by decide⟩
  rw [reset_bay]
  exact ⟨atBay_replicate .., bayLaw_outputsFollow.reset.2.2.2.2.2⟩

theorem reset_motion_samplingLawful : Motion.reset.samplingLawful := by
  refine ⟨?_, by decide, by decide, ?_, by decide, by decide, by decide, by decide, by decide, ?_, fun _ => rfl, ?_,
    ?_, ?_, ?_, by decide⟩
  · unfold MotionSettings.inRange; decide
  · rintro _ ⟨⟩
  · rintro ⟨⟩
  · rintro ⟨⟩
  all_goals unfold gravityInRange; decide

theorem reset_motion_episodesLawful : Motion.reset.episodesLawful := by
  refine ⟨by decide, by decide, by decide, ?_, ?_, by decide, by decide⟩
  · rintro _ ⟨⟩
  · rintro ⟨⟩

theorem reset_policyLawful : State.reset.policyLawful := by
  unfold State.policyLawful
  decide

theorem reset_supply_lawful : Supply.reset.lawful := by
  unfold Supply.lawful
  decide

theorem reset_notices_lawful : Notices.reset.lawful := by
  unfold Notices.lawful
  decide

/-- Settles O14, block by block; with the gate closed no grant is left undone. -/
theorem resetStateIsLawful : Obligations.ResetStateIsLawful := by
  refine ⟨reset_link_lawful, ⟨reset_queueLawful, fun b => ?_⟩, fun b => ?_, reset_chargesLawful, ?_,
    ⟨reset_motion_samplingLawful, reset_motion_episodesLawful, fun _ => rfl⟩, reset_policyLawful,
    reset_supply_lawful, reset_notices_lawful, ?_, ?_, ?_⟩
  · rw [reset_bay]; exact bayLaw_lawful.reset
  · rw [reset_bay]; exact bayLaw_outputsFollow.reset
  · rintro ⟨⟩
  · rintro ⟨⟩
  · exact fun _ => ⟨rfl, rfl, rfl, rfl, rfl, rfl, rfl, rfl⟩
  · rintro _ ⟨⟩

/-! ## Descriptors (R1) -/

theorem accessOf_eq (a : Byte) : accessOf a = if a = 0 then .absent else if a = 1 then .spinOnly else .full := by
  unfold accessOf
  simp only [BitVec.toNat_eq]
  split <;> simp_all

theorem limitOf_eq (a : Byte) : limitOf a = if a = 0 then .still else .rolling := by
  unfold limitOf
  simp only [BitVec.toNat_eq]
  split <;> simp_all

@[simp] theorem accessOf_code (a : Access) : accessOf (accessCode a) = a := by cases a <;> rfl

@[simp] theorem limitOf_code (l : MotionLimit) : limitOf (limitCode l) = l := by cases l <;> rfl

/-- A number in range survives a field of `w` bits that holds the range. -/
theorem clamp_ofNat {w lo hi x : Nat} (h : lo ≤ x ∧ x ≤ hi) (hw : hi < 2 ^ w) :
    clamp lo hi (BitVec.ofNat w x).toNat = x := by
  rw [BitVec.toNat_ofNat, Nat.mod_eq_of_lt (by omega), clamp_of_mem h.1 h.2]

theorem ofRaw_toRaw {d : Descriptor} (h : d.inRange) : Descriptor.ofRaw d.toRaw = d := by
  obtain ⟨hpeak, hrun, hspeed, hpulses, htol, hcount, hstart, hstep, hspin, hload, hunload, hstop⟩ := h
  have hp : clamp 1 60 (BitVec.ofNat 8 d.peakDraw).toNat = d.peakDraw := clamp_ofNat hpeak (by decide)
  simp only [Descriptor.ofRaw, Descriptor.toRaw, accessOf_code, limitOf_code, hp, clamp_ofNat hrun (w := 8) (by omega),
    clamp_ofNat hspeed (w := 16) (by decide), clamp_ofNat hpulses (w := 8) (by decide),
    clamp_ofNat htol (w := 8) (by decide), clamp_ofNat hcount (w := 8) (by decide),
    clamp_ofNat hstart (w := 8) (by decide), clamp_ofNat hstep (w := 8) (by decide),
    clamp_ofNat hspin (w := 8) (by decide), clamp_ofNat hload (w := 8) (by decide),
    clamp_ofNat hunload (w := 8) (by decide), clamp_ofNat hstop (w := 8) (by decide)]

/-- Settles O17: each field by `clamp_eq`, and the way back by `ofRaw_toRaw`. -/
theorem descriptorsAreBroughtIntoRange : Obligations.DescriptorsAreBroughtIntoRange := by
  refine ⟨fun r => ⟨ofRaw_inRange r, accessOf_eq _, limitOf_eq _, clamp_eq _ _ _ (by decide), clamp_eq _ _ _ le_clamp,
    ?_, ?_, ?_, ?_, ?_, ?_, ?_, ?_, ?_, ?_⟩, fun d => ofRaw_toRaw⟩
  all_goals exact clamp_eq _ _ _ (by decide)

/-! ## BAY_SETUP -/

theorem exec_baySetup {s : State} (h : s.canAnswer) (bay : Byte) (r : RawDescriptor) :
    exec (.baySetup bay r) s =
      let a := workBaySetup bay r (s.taken (.baySetup bay r)).acceptedRequest
      .next (a.2.sendReply 0x90 a.1.result a.1.clamped a.1.payload false) := request_answered h.1 h.2 _ _

theorem workBaySetup_accepted {s : State} {b : BayId} (r : RawDescriptor) (h : setupAllowed (s.bay b).state = true) :
    workBaySetup (BitVec.ofNat 8 b.val) r s =
      ({ result := .ok, clamped := decide ((Descriptor.ofRaw r).toRaw ≠ r),
         payload := BitVec.ofNat 8 b.val :: (Descriptor.ofRaw r).toRaw.bytes },
       (s.setUp b (Descriptor.ofRaw r)).policyTable b (Descriptor.ofRaw r)) := by
  simp only [workBaySetup, bayOf_val, h, if_true]
  rfl

theorem workBaySetup_busy {s : State} {b : BayId} (r : RawDescriptor) (h : setupAllowed (s.bay b).state = false) :
    workBaySetup (BitVec.ofNat 8 b.val) r s = (.refuse .busy, s) := by
  simp [workBaySetup, h]

/-- Settles O16: an accepted setup is `State.setUp`, said by state and access stored. -/
theorem baySetupStoresAndActs : Obligations.BaySetupStoresAndActs := by
  intro bay r s ha
  refine ⟨fun h => ?_, ?_⟩
  · rw [exec_baySetup ha, workBaySetup, bayOf_none h]
    rfl
  rintro b rfl d x y notice done
  let s1 := (s.taken (.baySetup (BitVec.ofNat 8 b.val) r)).acceptedRequest
  have hx : s1.bay b = x := by simp [s1, x]
  have hclock : s1.clock = s.clock := by simp [s1]
  have hdone : setupAllowed x.state = true → exec (.baySetup (BitVec.ofNat 8 b.val) r) s = done (s1.setUp b d) :=
    fun hs => by
      rw [exec_baySetup ha, workBaySetup_accepted (s := s1) r (by rw [hx]; exact hs)]
  refine ⟨fun hs => ?_, fun hs hd => ?_, fun hs hd => ?_, fun hs hd => ?_, fun hs hd => ?_, fun hs hd => ?_,
    fun hs hd => ?_⟩
  · have hbusy : setupAllowed x.state = false := by
      cases hst : x.state <;> simp_all [setupAllowed, BayState.turning, BayState.poweredUp]
    rw [exec_baySetup ha, workBaySetup_busy (s := s1) r (by rw [hx]; exact hbusy)]
    rfl
  · rw [hdone (setupAllowed_iff.mpr (.inl hs)), setUp_vacant_absent (hx ▸ hs) hd, hx]
    rfl
  · rw [hdone (setupAllowed_iff.mpr (.inl hs)), setUp_vacant (hx ▸ hs) hd, hx, hclock]
    rfl
  · rw [hdone (setupAllowed_iff.mpr (.inr hs)), setUp_absent (hx ▸ hs) hd, hx, hclock]
    rfl
  · rw [hdone (setupAllowed_iff.mpr (.inr (.inl hs))), setUp_stopped_spinOnly (hx ▸ hs) hd, hx]
    rfl
  · rw [hdone (setupAllowed_iff.mpr (.inr (.inl hs))), setUp_stopped_full (hx ▸ hs) hd, hx]
    rfl
  · rw [hdone (setupAllowed_iff.mpr (.inr (.inr hs))), setUp_faulted (hx ▸ hs) hd, hx]
    rfl

/-! ## Bay queries -/

/-- Five flags as the bits of a byte. -/
theorem packed_five : ∀ a b c d e : Bool,
    let p := packed (a.toNat + b.toNat * 2 + c.toNat * 4 + d.toNat * 8 + e.toNat * 16)
    p.getLsbD 0 = a ∧ p.getLsbD 1 = b ∧ p.getLsbD 2 = c ∧ p.getLsbD 3 = d ∧ p.getLsbD 4 = e ∧ p.toNat < 32 := by
  decide

/-- Six flags as the bits of a byte. -/
theorem packed_six : ∀ a b c d e f : Bool,
    let p := packed (a.toNat + b.toNat * 2 + c.toNat * 4 + d.toNat * 8 + e.toNat * 16 + f.toNat * 32)
    p.getLsbD 0 = a ∧ p.getLsbD 1 = b ∧ p.getLsbD 2 = c ∧ p.getLsbD 3 = d ∧ p.getLsbD 4 = e ∧ p.getLsbD 5 = f ∧
      p.toNat < 64 := by
  decide

section
variable {s : State} {b : BayId}

theorem heldSpinGate_iff : s.heldSpinGate b = true ↔ (s.bay b).state = .queued ∧ s.arbiter.gateOpen = false := by
  simp [State.heldSpinGate]

theorem heldLoadGate_iff {x : Bay} :
    x.heldLoadGate = true ↔ x.state = .spinning ∧ x.intent = .fly ∧ x.loadPermission = false := by
  simp [Bay.heldLoadGate, and_assoc]

theorem heldNotSeated_iff {x : Bay} :
    x.heldNotSeated = true ↔ x.state = .stopped ∧ x.seated = false ∧ x.intent ≠ .off := by
  simp [Bay.heldNotSeated, and_assoc]

theorem heldOversize_iff :
    s.heldOversize b = true ↔ b ∈ s.arbiter.queue ∧ s.arbiter.budget < (s.bay b).desc.peakDraw := by
  simp [State.heldOversize, State.oversize]

theorem heldSpacing_iff :
    s.heldSpacing b = true ↔
      b ∈ s.arbiter.queue ∧ ¬ s.arbiter.budget < (s.bay b).desc.peakDraw ∧ s.arbiter.spacingTimer ≠ .idle := by
  simp [State.heldSpacing, State.oversize, and_assoc]

theorem heldBudget_iff :
    s.heldBudget b = true ↔
      b ∈ s.arbiter.queue ∧ ¬ s.arbiter.budget < (s.bay b).desc.peakDraw ∧
        ∃ c, s.candidate = some c ∧ s.fits c = false := by
  rcases hc : s.candidate with _ | c <;> simp [State.heldBudget, State.oversize, and_assoc, hc]

end

theorem exec_bayQuery {s : State} (h : s.canAnswer) (bay : Byte) :
    exec (.bayQuery bay) s =
      let a := workBayQuery bay (s.taken (.bayQuery bay)).acceptedRequest
      .next (a.2.sendReply 0x93 a.1.result a.1.clamped a.1.payload false) := request_answered h.1 h.2 _ _

theorem exec_bayDescribe {s : State} (h : s.canAnswer) (bay : Byte) :
    exec (.bayDescribe bay) s =
      let a := workBayDescribe bay (s.taken (.bayDescribe bay)).acceptedRequest
      .next (a.2.sendReply 0x94 a.1.result a.1.clamped a.1.payload false) := request_answered h.1 h.2 _ _

/-- The report of an accepted request changes nothing that a bay's record shows. -/
theorem bayRecord_accepted (s : State) (c : Instr) (b : BayId) :
    (s.taken c).acceptedRequest.bayRecord b = s.bayRecord b := by
  obtain ⟨_, _, h⟩ := PolicyWork.acceptedRequest (s.taken c)
  rw [h]
  rfl

/-- Settles O18: the record byte by byte, its two bit sets by `packed_five` and `packed_six`. -/
theorem bayQueriesReadTheRecord : Obligations.BayQueriesReadTheRecord := by
  refine ⟨⟨fun st => by cases st <;> rfl, fun i => by cases i <;> rfl, fun a => by cases a <;> rfl,
    fun l => by cases l <;> rfl, rfl, fun r => ⟨rfl, by cases r <;> rfl⟩⟩, fun bay s ha => ⟨fun h => ⟨?_, ?_⟩, ?_⟩⟩
  · rw [exec_bayQuery ha, workBayQuery, bayOf_none h]
    rfl
  · rw [exec_bayDescribe ha, workBayDescribe, bayOf_none h]
    rfl
  rintro b rfl x e waits large
  refine ⟨?_,
    packed (x.seated.toNat + x.touched.toNat * 2 + x.stopMark.toNat * 4 + x.hld.toNat * 8 + x.prkLevel.toNat * 16),
    s.heldReasons b, ?_, packed_five .., ?_⟩
  · rw [exec_bayDescribe ha, workBayDescribe, bayOf_val]
    simp only [accepted_bay, taken_bay]
    rfl
  · rw [exec_bayQuery ha, workBayQuery, bayOf_val]
    simp only [bayRecord_accepted]
    rfl
  · obtain ⟨h0, h1, h2, h3, h4, h5, hlt⟩ := packed_six (s.heldSpinGate b) x.heldLoadGate (s.heldBudget b)
      (s.heldSpacing b) (s.heldOversize b) x.heldNotSeated
    refine ⟨?_, ?_, ?_, ?_, ?_, ?_, hlt⟩
    · exact (iff_of_eq (congrArg (· = true) h0)).trans heldSpinGate_iff
    · exact (iff_of_eq (congrArg (· = true) h1)).trans heldLoadGate_iff
    · exact (iff_of_eq (congrArg (· = true) h2)).trans heldBudget_iff
    · exact (iff_of_eq (congrArg (· = true) h3)).trans heldSpacing_iff
    · exact (iff_of_eq (congrArg (· = true) h4)).trans heldOversize_iff
    · exact (iff_of_eq (congrArg (· = true) h5)).trans heldNotSeated_iff

/-! ## State entries -/

/-- Settles O22: each entry sets what its definition lists, the fixed intervals in milliseconds. -/
theorem stateEntriesSetTheRecord : Obligations.StateEntriesSetTheRecord :=
  fun _ _ _ => ⟨rfl, rfl, rfl, rfl, rfl, rfl, rfl, rfl, rfl, rfl, rfl, rfl⟩

end Sys2Proof.Machine
end

section
/-! SUPPORT. The spindle's and the heads' events, orders and seat events by the bay's state. -/

namespace Sys2Proof.Machine

/-! ## Tach periods (R14, R35 to R39, R41) -/

/-- Settles O25: in the proven states by `testPeriod_proven`, in the others by the branches of `testPeriod`. -/
theorem periodsAreTestedByState : Obligations.PeriodsAreTestedByState := by
  intro b period s
  dsimp only
  refine ⟨fun hs hp => ?_, fun hs hp => ?_, fun hs hp => ?_, fun hs hp hn => ?_, fun hs hp hn => ?_, fun hs hn => ?_,
    fun hs hr hw => ?_, fun hs => ?_⟩
  · simp [State.testPeriod, hs, hp]
  · simp [State.testPeriod, hs, hp, mapBay_eq]
  · simp [State.testPeriod, hs, hp, mapBay_eq]
  · simp [State.testPeriod, hs, hp, mapBay_eq, Nat.not_le.mpr hn]
  · simp [State.testPeriod, hs, hp, mapBay_eq, hn, toSpinningProven_eq]
  · rw [testPeriod_proven period hs]
    dsimp only
    rw [mapBay_bay_same, if_neg]
    · rfl
    · rintro ⟨hr, hw⟩
      rcases hn with hn | hn
      · exact absurd hr (Nat.ne_of_lt hn)
      · simp [hn] at hw
  · rw [testPeriod_proven period hs]
    dsimp only
    rw [mapBay_bay_same, if_pos ⟨hr, hw⟩]
    rfl
  · simp [State.testPeriod, hs]

/-! ## Ramp, silence, timeouts -/

/-- Settles O26: the branch of `speedLost` for each state, and the expiries with their guard over. -/
theorem rampsAndSilenceActOnTheSpindle : Obligations.RampsAndSilenceActOnTheSpindle := by
  refine ⟨fun b s hp => ⟨event_operating hp _ _, fun e hs ht he => ?_⟩,
    fun b s => ⟨fun hs => ?_, fun hs => ?_, fun hs => ?_⟩,
    fun b s e hp hs ht he => ?_⟩
  · refine (event_operating hp _ _).trans (congrArg _ ?_)
    exact if_pos (by simp [hs, ht, he])
  · simp [State.speedLost, mapBay_eq, withMark_eq, toStopping_eq, hs]
  · rcases hs with hs | hs <;> simp [State.speedLost, mapBay_eq, withMark_eq, toUnloading_eq, hs]
  · simp [State.speedLost, mapBay_eq, withMark_eq, hs]
  · refine (event_operating hp _ _).trans (congrArg _ ?_)
    exact if_pos (by simp [hs, ht, he])

/-- Settles O27: each expiry marks the bay and takes the transition of its state. -/
theorem timeoutsMarkTheBay : Obligations.TimeoutsMarkTheBay := by
  intro b s e hp he
  refine ⟨fun hs ht => ?_, fun hs ht => ?_, fun hs ht => ?_, fun hs ht => ?_⟩ <;>
    refine (event_operating hp _ _).trans (congrArg _ ?_)
  · simp [takeSpinupTimeout, mapBay_withMark, toStopping_eq, hs, ht, he]
  · simp [takeSettleTimeout, mapBay_withMark, toStopping_eq, hs, ht, he]
  · simp [takeLoadTimeout, mapBay_withMark, toUnloading_eq, hs, ht, he]
  · simp [takeUnloadTimeout, mapBay_withMark, toStopping_eq, hs, ht, he]

/-! ## The end of STOPPING (R16, R43, R44) -/

theorem queueIfWanted_wanted {s : State} {b : BayId} (hs : (s.bay b).state = .stopped) (hx : (s.bay b).seated = true)
    (hi : (s.bay b).intent ≠ .off) : s.queueIfWanted b = s.joinQueue b := by
  simp [State.queueIfWanted, hs, hx, hi]

theorem queueIfWanted_not_wanted {s : State} {b : BayId}
    (h : (s.bay b).state ≠ .stopped ∨ (s.bay b).seated = false ∨ (s.bay b).intent = .off) : s.queueIfWanted b = s := by
  rcases h with h | h | h <;> simp [State.queueIfWanted, h]

/-- Tach quiet on a bay without a mark (R16, R43). -/
theorem takeTachQuiet_clean {s : State} {b : BayId} (hs : (s.bay b).state = .stopping)
    (ht : (s.bay b).quietTimer.due s.clock = true) (hm : (s.bay b).mark = none) :
    takeTachQuiet b s = (s.toStopped b).queueIfWanted b := by
  simp [takeTachQuiet, hs, ht, hm]

theorem toStopped_bay (s : State) (b : BayId) : (s.toStopped b).bay b = (s.bay b).enterStopped s.clock := by
  rw [toStopped_eq, handOn_bay, setBay_bay_same]

/-- Settles O28: tach quiet by the mark and by `queueIfWanted`; the stop timer by `toFaulted_eq`. -/
theorem stoppingEndsQuietOrFaulted : Obligations.StoppingEndsQuietOrFaulted := by
  intro b s e hp hq he hs
  have hb : b ∉ s.arbiter.queue := not_mem_queue hq (by simp [hs])
  refine ⟨fun m ht hm => ?_, fun ht hm hw => ?_, fun ht hm hx hi => ?_, fun ht => ?_⟩ <;>
    refine (event_operating hp _ _).trans (congrArg _ ?_)
  · simp [takeTachQuiet, toFaulted_eq (s := s.taken _) hb, hs, ht, he, hm]
  · rw [takeTachQuiet_clean (s := s.taken _) hs (by simpa [ht] using he) hm, queueIfWanted_not_wanted, toStopped_eq]
    · rfl
    · rw [toStopped_bay]
      exact .inr hw
  · rw [takeTachQuiet_clean (s := s.taken _) hs (by simpa [ht] using he) hm, queueIfWanted_wanted, toStopped_eq]
    · rfl
    all_goals rw [toStopped_bay]
    · rfl
    · exact hx
    · exact hi
  · simp [takeStopTimeout, toFaulted_eq (s := s.taken _) hb, hs, ht, he]

/-! ## Heads (R49 to R61) -/

/-- Settles O29: the level changes, and only SPINNING, LOADING and FLYING have a branch of their own. -/
theorem parkedSenseActsByState : Obligations.ParkedSenseActsByState := by
  intro b s hp
  refine ⟨fun hl => ⟨fun hs => ?_, fun hs => ?_, fun hs hs' => ?_⟩, fun hl => ⟨fun hs => ?_, fun hs => ?_⟩⟩ <;>
    refine (event_operating hp _ _).trans (congrArg _ ?_)
  · simp [takePrkRelease, mapBay_eq, toUnloading_eq, hl, hs]
  · simp [takePrkRelease, mapBay_eq, postBay_eq, hl, hs]
    rfl
  · simp only [takePrkRelease, taken_bay, hl, if_true, mapBay_bay_same]
    split
    next h => exact absurd h hs
    next h => exact absurd h hs'
    all_goals rfl
  · simp [takePrkAssertion, mapBay_eq, withMark_eq, toUnloading_eq, hl, hs]
  · simp only [takePrkAssertion, taken_bay, hl, mapBay_bay_same]
    split
    next h => cases h
    next =>
      split
      next h => exact absurd h hs
      all_goals rfl

/-- Settles O30: the completion test by `Bay.returnsToSpinning`, the load by `readyToLoad_iff`. -/
theorem loadsAndUnloadsFollowTheirTests : Obligations.LoadsAndUnloadsFollowTheirTests := by
  refine ⟨fun b s hp hs => ⟨fun e hg he => ?_, fun hn => ?_, fun ho hl => ⟨fun hm hq hi => ?_, fun hn => ?_⟩⟩,
    fun b s => ⟨?_, rfl⟩⟩
  · refine (event_operating hp _ _).trans (congrArg _ ?_)
    simp [takeGuardExpiry, mapBay_eq, Guard.over, hg, he]
  · refine (event_operating hp _ _).trans (congrArg _ (if_neg ?_))
    rcases hn with h | h <;> simp [h]
  · refine (event_operating hp _ _).trans (congrArg _ ?_)
    have hr : (s.bay b).returnsToSpinning = true := by simp [Bay.returnsToSpinning, hm, hq, hi]
    have ht : takeCompletionTest b (s.taken (.unloadCompletion b)) =
        (s.taken (.unloadCompletion b)).toSpinningUnloaded b := by simp [takeCompletionTest, hs, ho, hl, hr]
    rw [ht, toSpinningUnloaded_eq, afterSpinning_parked]
    · rfl
    · rw [handOn_bay, setBay_bay_same]
      exact hl
  · refine (event_operating hp _ _).trans (congrArg _ ?_)
    have hr : (s.bay b).returnsToSpinning = false := by
      rcases hn with h | h | h <;> simp [Bay.returnsToSpinning, h]
    simp [takeCompletionTest, toStopping_eq, hs, ho, hl, hr]
  · simp only [loadTest_eq, readyToLoad_iff]

theorem headsUp_iff {st : BayState} : st.headsUp = true ↔ st = .loading ∨ st = .flying := by cases st <;> decide

/-- Settles O31: an order goes by the bay's state; its lifting and a permission report set one flag. -/
theorem ordersActByState : Obligations.OrdersActByState := by
  intro b s hp
  refine ⟨fun hs => ?_, fun hs => ?_, fun hs => ?_, fun hs => ?_, fun hs => ?_, fun hs => ?_, ?_, ?_, ?_⟩ <;>
    refine (event_operating hp _ _).trans (congrArg _ ?_)
  · rcases hs with hs | hs <;> simp [takeForcedUnload, BayState.headsUp, toUnloading_eq, hs]
  · have hs' : ¬ ((s.bay b).state = .loading ∨ (s.bay b).state = .flying) := hs
    exact if_neg (mt headsUp_iff.mp hs')
  · rcases hs with hs | hs | hs <;> simp [takeStopOrder, mapBay_eq, toStopping_eq, hs]
  · rcases hs with hs | hs <;> simp [takeStopOrder, mapBay_eq, toUnloading_eq, hs]
  · simp [takeStopOrder, mapBay_eq, hs]
  · rcases hs with hs | hs | hs | hs | hs <;> simp [takeStopOrder, mapBay_eq, hs]
  · rfl
  · rfl
  · rfl

theorem takeReseat_unseated {s : State} {b : BayId} (h : (s.bay b).seated = false) :
    takeReseat b s = (s.setBay b { s.bay b with seated := true, seatCount := 0 }).queueIfWanted b := by
  simp [takeReseat, mapBay_eq, h]

/-- Settles O32: UNSEAT by the kind of state, RESEAT through `queueIfWanted`. -/
theorem seatEventsActByState : Obligations.SeatEventsActByState := by
  intro b s hp hq
  refine ⟨fun hx => ⟨fun hs => ?_, fun hs => ?_, fun hs => ?_⟩, fun hx => ⟨fun hs hi => ?_, fun hn => ?_⟩⟩ <;>
    refine (event_operating hp _ _).trans (congrArg _ ?_)
  · rcases hs with hs | hs | hs <;> simp [takeUnseat, mapBay_eq, hx, hs]
  · simp [takeUnseat, mapBay_eq, toStopped_eq, State.unqueue, hx, hs]
  · have hb : b ∉ s.arbiter.queue := not_mem_queue hq (by intro h; simp [h, turning_iff] at hs)
    rcases turning_iff.mp hs with hs | hs | hs | hs | hs | hs | hs <;>
      simp [takeUnseat, mapBay_eq, hx, hs, toFaulted_eq (s := (s.taken _).setBay b _) hb] <;> rfl
  · rw [takeReseat_unseated (s := s.taken _) hx, queueIfWanted_wanted]
    · rfl
    all_goals rw [setBay_bay_same]
    · exact hs
    · exact hi
  · rw [takeReseat_unseated (s := s.taken _) hx, queueIfWanted_not_wanted]
    · rfl
    · rw [setBay_bay_same]
      exact hn.imp_right .inr

end Sys2Proof.Machine
end

section
/-! SUPPORT. The speed bands of a descriptor in range, the edges of TACHn, and what the arbiter takes. -/

namespace Sys2Proof.Machine

/-! ## Speed bands (R36) -/

/-- The target period is 6,000,000 over the pulses rounded to the nearest, so it lies in R36's range. -/
theorem target_bounds {d : Descriptor} (h : d.inRange) : 500 ≤ d.target ∧ d.target ≤ 20000 := by
  obtain ⟨-, -, ⟨hs, hs'⟩, ⟨hp, hp'⟩, -⟩ := h
  have low : 300 ≤ d.speedCode * d.pulses := Nat.mul_le_mul hs hp
  have high : d.speedCode * d.pulses ≤ 12000 := Nat.mul_le_mul hs' hp'
  unfold Descriptor.target
  generalize d.speedCode * d.pulses = q at low high
  constructor
  · rw [Nat.le_div_iff_mul_le (by omega)]
    omega
  · rw [← Nat.lt_succ_iff, Nat.div_lt_iff_lt_mul (by omega)]
    omega

/-- The speed band never closes on the target: its half-width is at least 1 µs. -/
theorem one_le_halfWidth {d : Descriptor} (h : d.inRange) : 1 ≤ d.halfWidth d.target := by
  have target := (target_bounds h).1
  obtain ⟨-, -, -, -, ⟨tol, -⟩, -⟩ := h
  have width : 500 * 1 ≤ d.target * d.tolerance := Nat.mul_le_mul target tol
  unfold Descriptor.halfWidth
  omega

theorem halfWidth_le_faultHalfWidth (d : Descriptor) (target : Nat) :
    d.halfWidth target ≤ d.faultHalfWidth target :=
  Nat.div_le_div_right (Nat.mul_le_mul_left target (by omega))

/-- The widest fault band is a quarter of the longest target period. -/
theorem faultHalfWidth_le {d : Descriptor} (h : d.inRange) : d.faultHalfWidth d.target ≤ 5000 := by
  have target := (target_bounds h).2
  obtain ⟨-, -, -, -, ⟨-, tol⟩, -⟩ := h
  have width : d.target * (2 * d.tolerance) ≤ 20000 * 64 := Nat.mul_le_mul target (by omega)
  unfold Descriptor.faultHalfWidth
  omega

theorem inSpeedBand_iff {x : Bay} {period : Nat} :
    x.inSpeedBand period = true ↔ x.target ≤ period + x.half ∧ period ≤ x.target + x.half := by
  simp [Bay.inSpeedBand]

theorem inFaultBand_iff {x : Bay} {period : Nat} :
    x.inFaultBand period = true ↔ x.target ≤ period + x.faultHalf ∧ period ≤ x.target + x.faultHalf := by
  simp [Bay.inFaultBand]

/-- A period beyond the upper end is out of the speed band. -/
theorem inSpeedBand_above {x : Bay} {period : Nat} (h : x.target + x.half < period) : x.inSpeedBand period = false :=
  Bool.eq_false_iff.mpr fun hb => absurd (inSpeedBand_iff.mp hb).2 (Nat.not_le.mpr h)

/-- A period beyond the upper end is out of the fault band. -/
theorem inFaultBand_above {x : Bay} {period : Nat} (h : x.target + x.faultHalf < period) :
    x.inFaultBand period = false :=
  Bool.eq_false_iff.mpr fun hb => absurd (inFaultBand_iff.mp hb).2 (Nat.not_le.mpr h)

/-- Settles O23: the ranges by `target_bounds` and the half-widths; so both bands end below a saturated period. -/
theorem speedBandsFitTheirField : Obligations.SpeedBandsFitTheirField := by
  intro d hd
  obtain ⟨low, high⟩ := target_bounds hd
  have widest := faultHalfWidth_le hd
  have narrower := halfWidth_le_faultHalfWidth d d.target
  refine ⟨rfl, rfl, rfl, low, high, one_le_halfWidth hd, Nat.add_le_add high widest, ?_⟩
  intro x period (ht : x.target = d.target) (hh : x.half = d.halfWidth d.target)
    (hf : x.faultHalf = d.faultHalfWidth d.target)
  refine ⟨?_, ?_, inSpeedBand_above (by omega), inFaultBand_above (by omega)⟩
  · rw [inSpeedBand_iff, ht, hh]
    rfl
  · rw [inFaultBand_iff, ht, hf]
    rfl

/-! ## Tach edges (R34, R35, R40, R43) -/

/-- With an edge reference, the glitch filter is 100 µs (R34). -/
theorem accepts_after {x : Bay} {ref : EdgeTime} (hr : x.edgeRef = some ref) (now : EdgeTime) :
    x.accepts now = decide (100 ≤ ref.elapsed now) := by
  rw [Bay.accepts, hr]
  rfl

/-- An edge is dropped where TACHn is not observed, and within 100 µs of the edge reference (R34). -/
theorem takeTachEdge_ignored {s : State} {b : BayId} {us : Nat}
    (h : (s.bay b).state.turning = false ∨ (s.bay b).accepts { ms := s.clock, us := us } = false) :
    takeTachEdge b us s = s := by
  rcases h with h | h <;> simp [takeTachEdge, tachObserved, h]

/-- The first edge after RAMPING entry has no reference before it and gives no period (R35). -/
theorem takeTachEdge_first {s : State} {b : BayId} (us : Nat) (ht : (s.bay b).state.turning = true)
    (hr : (s.bay b).edgeRef = none) :
    takeTachEdge b us s = s.setBay b ((s.bay b).edgeAccepted { ms := s.clock, us := us }) := by
  simp [takeTachEdge, tachObserved, Bay.accepts, mapBay_eq, ht, hr]

/-- Every later accepted edge gives a period, which is held and tested (R35). -/
theorem takeTachEdge_period {s : State} {b : BayId} {us : Nat} {ref : EdgeTime}
    (ht : (s.bay b).state.turning = true) (hr : (s.bay b).edgeRef = some ref)
    (ha : 100 ≤ ref.elapsed { ms := s.clock, us := us }) :
    takeTachEdge b us s =
      let period := min 65535 (ref.elapsed { ms := s.clock, us := us })
      (s.setBay b
        { (s.bay b).edgeAccepted { ms := s.clock, us := us } with lastTach := period }).testPeriod b period := by
  simp [takeTachEdge, tachObserved, accepts_after hr, Config.periodMax, mapBay_eq, ht, hr, ha]

/-- Settles O24: an edge is dropped, is the first, or gives a period. -/
theorem tachEdgesGivePeriods : Obligations.TachEdgesGivePeriods := by
  intro b us s hp
  refine ⟨fun ht => ?_, fun ht hr => ?_, fun ref ht hr => ⟨fun hl => ?_, fun hl => ?_⟩⟩ <;>
    refine (event_operating hp _ _).trans (congrArg _ ?_)
  · exact takeTachEdge_ignored (s := s.taken _) (.inl ht)
  · exact takeTachEdge_first (s := s.taken _) us ht hr
  · refine takeTachEdge_ignored (s := s.taken _) (.inr ?_)
    exact (accepts_after hr _).trans (decide_eq_false (Nat.not_le.mpr hl))
  · exact takeTachEdge_period (s := s.taken _) ht hr hl

/-! ## What the arbiter takes (R46, R71 to R73, R82, R83) -/

/-- The gate closes, or was open before: the report is held and nothing is evaluated (R83). -/
theorem takeSpinGate_held {s : State} {opened : Bool} (h : opened = false ∨ s.arbiter.gateOpen = true) :
    takeSpinGate opened s = s.setArbiter { s.arbiter with gateOpen := opened } := by
  rcases h with h | h <;> simp [takeSpinGate, h]

/-- The opening of the gate is an evaluation event (R83). -/
theorem takeSpinGate_opens {s : State} (h : s.arbiter.gateOpen = false) :
    takeSpinGate true s = (s.setArbiter { s.arbiter with gateOpen := true }).evaluate := by
  simp [takeSpinGate, h]

/-- The spacing timer's expiry idles it, and an evaluation follows (R82). -/
theorem takeSpacingExpiry_due {s : State} {e : Clock} (ht : s.arbiter.spacingTimer = .running e)
    (he : reached s.clock e = true) :
    takeSpacingExpiry s = (s.setArbiter { s.arbiter with spacingTimer := .idle }).evaluate := by
  simp [takeSpacingExpiry, ht, he]

/-- Settles O38: a draw report by how the charge moves, the other events by what each one sets. -/
theorem arbiterActsOnItsEvents : Obligations.ArbiterActsOnItsEvents := by
  intro s
  refine ⟨fun b charge => ⟨reportDraw_same, reportDraw_falls, reportDraw_rises⟩,
    fun hp => ⟨fun opened hg => ?_, fun hg => ?_, fun src => ?_, fun e ht he => ?_⟩⟩ <;>
    refine (event_operating hp _ _).trans (congrArg _ ?_)
  · exact takeSpinGate_held (s := s.taken _) hg
  · exact takeSpinGate_opens (s := s.taken _) hg
  · rfl
  · exact takeSpacingExpiry_due (s := s.taken _) ht he

end Sys2Proof.Machine
end

section
/-! SUPPORT. The quiet timer and the open episode: what the expiry, a restart request and the bays' reports do. -/

namespace Sys2Proof.Machine

section
variable {s : State}

/-! ## The quiet timer's expiry (R119, R122) -/

/-- Without an open episode there is nothing to close. -/
theorem closeEpisode_none (h : s.motion.openEpisode = none) : s.closeEpisode = s := by
  simp [State.closeEpisode, h]

/-- The open episode gets its duration, and its notice is posted (R122). -/
theorem closeEpisode_open {r : Episode} {rest : List Episode} (h : s.motion.episodes = r :: rest)
    (hd : r.duration = none) :
    s.closeEpisode =
      (s.setMotion { s.motion with episodes := { r with duration := some (s.clock - r.start) } :: rest }).handOn
        [.noticePost .episode s.clock (payloadOf r.sequence (saturate16 (since s.clock r.start)))] := by
  simp only [State.closeEpisode, openEpisode_some.mpr ⟨rest, h, hd⟩, mapOpen_cons h hd, post_eq, setMotion_clock]

/-- At its expiry the timer is QUIET, the open episode closes, and QUIET is handed on, in this order (R119). -/
theorem takeQuietExpiry_due {e : Clock} (ht : s.motion.quiet = .running e) (he : reached s.clock e = true) :
    takeQuietExpiry s =
      (s.setMotion { s.motion with quiet := .quiet }).closeEpisode.handOn
        [.motionVerdictHandoff none none (some true)] := by
  have due : s.motion.quiet.due s.clock = true := by rw [ht]; exact he
  rw [takeQuietExpiry, if_pos due, handVerdict_eq]
  rfl

/-- With no episode open, the expiry only makes the timer QUIET and hands that on. -/
theorem takeQuietExpiry_none {e : Clock} (ht : s.motion.quiet = .running e) (he : reached s.clock e = true)
    (hn : s.motion.openEpisode = none) :
    takeQuietExpiry s =
      (s.setMotion { s.motion with quiet := .quiet }).handOn [.motionVerdictHandoff none none (some true)] := by
  have same := closeEpisode_none (s := s.setMotion { s.motion with quiet := .quiet }) hn
  rw [takeQuietExpiry_due ht he, same]

/-- With an episode open, its notice goes ahead of the handoff. -/
theorem takeQuietExpiry_open {e : Clock} {r : Episode} {rest : List Episode} (ht : s.motion.quiet = .running e)
    (he : reached s.clock e = true) (hr : s.motion.episodes = r :: rest) (hd : r.duration = none) :
    takeQuietExpiry s =
      (s.setMotion
        { s.motion with
          quiet := .quiet, episodes := { r with duration := some (s.clock - r.start) } :: rest }).handOn
        [.noticePost .episode s.clock (payloadOf r.sequence (saturate16 (since s.clock r.start))),
         .motionVerdictHandoff none none (some true)] := by
  have closes := closeEpisode_open (s := s.setMotion { s.motion with quiet := .quiet }) hr hd
  rw [takeQuietExpiry_due ht he, closes, handOn_handOn]
  rfl

/-! ## A restart request (R116 to R118) -/

/-- The timer restarts with the multiplier of the moment; the policy hears of it when the case was quiet (R117). -/
theorem takeQuietRestart_eq :
    takeQuietRestart s =
      (s.setMotion (s.motion.restartQuiet s.clock)).handOn
        (if s.motion.quiet = .quiet then [.motionVerdictHandoff none none (some false)] else []) := by
  rw [takeQuietRestart, handVerdict_eq]
  by_cases hq : s.motion.quiet = .quiet <;> simp [hq]

/-! ## Reports of unloads and strandings (R64, R65, R124) -/

/-- With no episode open, a change of the open episode is dropped. -/
theorem setMotion_mapOpen_none (h : s.motion.openEpisode = none) (f : Episode → Episode) :
    s.setMotion (s.motion.mapOpen f) = s := by
  rw [mapOpen_none h]
  rfl

/-- With an episode open, a change of it reaches the head of the list alone. -/
theorem setMotion_mapOpen_open {r : Episode} {rest : List Episode} (h : s.motion.episodes = r :: rest)
    (hd : r.duration = none) (f : Episode → Episode) :
    s.setMotion (s.motion.mapOpen f) = s.setMotion { s.motion with episodes := f r :: rest } := by
  rw [mapOpen_cons h hd]

end

/-- Settles O44: at the expiry and at a report the cases are no open episode and an open one at the list's head. -/
theorem quietTimerAndEpisodeReports : Obligations.QuietTimerAndEpisodeReports := by
  intro s hp
  refine ⟨fun e ht he => ⟨fun hn => ?_, fun r rest hr hd => ?_⟩, ?_,
    fun b => ⟨fun hn => ⟨?_, ?_⟩, fun r rest hr hd => ⟨?_, ?_⟩⟩⟩ <;>
    refine (event_operating hp _ _).trans (congrArg _ ?_)
  · exact takeQuietExpiry_none (s := s.taken _) ht he hn
  · exact takeQuietExpiry_open (s := s.taken _) ht he hr hd
  · exact takeQuietRestart_eq
  · exact setMotion_mapOpen_none (s := s.taken _) hn _
  · exact setMotion_mapOpen_none (s := s.taken _) hn _
  · exact setMotion_mapOpen_open (s := s.taken _) hr hd _
  · exact setMotion_mapOpen_open (s := s.taken _) hr hd _

end Sys2Proof.Machine
end

section
/-! SUPPORT. No grant left undone (R72): what the arbiter reads of a waiting bay, and each transition of a bay, each
command, each request and the clock as work that leaves no grant behind. -/

namespace Sys2Proof.Machine

/-! ## What candidate and fit are read from -/

/-- What the arbiter reads of a bay is the same: priority and peak draw (R76, R78). -/
def Bay.sameWant (x y : Bay) : Prop := y.priority = x.priority ∧ y.desc.peakDraw = x.desc.peakDraw

/-- The candidate depends on the arbiter and on the bays that wait. -/
theorem candidate_of_queue {s t : State} (ha : t.arbiter = s.arbiter)
    (hb : ∀ i ∈ s.arbiter.queue, (s.bay i).sameWant (t.bay i)) : t.candidate = s.candidate := by
  have same : ∀ (level : Fin 4) (i : BayId),
      (s.arbiter.queue.contains i && !t.oversize i && decide ((t.bay i).priority = level)) =
        (s.arbiter.queue.contains i && !s.oversize i && decide ((s.bay i).priority = level)) := by
    intro level i
    by_cases hi : i ∈ s.arbiter.queue
    · obtain ⟨hp, hd⟩ := hb i hi
      simp only [State.oversize, ha, hp, hd]
    · simp [hi]
  simp only [State.candidate, ha, same]

/-- From `s` to `t` no grant is left behind: if none was undone, none is. -/
structure GrantsKept (s t : State) : Prop where
  done : s.grantsDone → t.grantsDone

namespace GrantsKept

section
variable {s t u : State}

theorem refl (s : State) : GrantsKept s s := ⟨id⟩

theorem trans (h : GrantsKept s t) (h' : GrantsKept t u) : GrantsKept s u := ⟨h'.done ∘ h.done⟩

/-- An evaluation leaves no grant undone, whatever came before it (R72). -/
theorem evaluated (s t : State) : GrantsKept s t.evaluate :=
  ⟨fun _ hg ht b => evaluate_done t b (mayGrant_iff.mpr ⟨hg, ht⟩)⟩

theorem closed (h : t.arbiter.gateOpen = false) : GrantsKept s t := ⟨fun _ hg => absurd hg (by simp [h])⟩

/-- Behind the same arbiter bays may change in what it does not read, and at will while they do not wait. -/
theorem of_queue (ha : t.arbiter = s.arbiter) (hb : ∀ i ∈ s.arbiter.queue, (s.bay i).sameWant (t.bay i)) :
    GrantsKept s t := by
  refine ⟨fun h hg ht c hc => ?_⟩
  rw [ha] at hg ht
  rw [candidate_of_queue ha hb] at hc
  rw [fits_congr ha (hb c (candidate_mem hc).1).2]
  exact h hg ht c hc

/-- Work of other blocks. -/
theorem frame (hb : t.bays = s.bays) (ha : t.arbiter = s.arbiter) : GrantsKept s t :=
  of_queue ha fun i _ => by rw [State.bay, State.bay, hb]; exact ⟨rfl, rfl⟩

theorem of_policy (w : PolicyWork s t) : GrantsKept s t := by
  obtain ⟨_, _, rfl⟩ := w
  exact frame rfl rfl

theorem of_motion (w : MotionWork s t) : GrantsKept s t := by
  obtain ⟨_, _, rfl⟩ := w
  exact frame rfl rfl

end

section
variable (s : State) (b : BayId)

theorem taken (c : Instr) : GrantsKept s (s.taken c) := frame rfl rfl
theorem handOn (l : List Instr) : GrantsKept s (s.handOn l) := frame rfl rfl
theorem postBay : GrantsKept s (s.postBay b) := frame rfl rfl
theorem setLink (l : Link) : GrantsKept s (s.setLink l) := frame rfl rfl

theorem setBay {s : State} {b : BayId} {y : Bay} (hy : b ∈ s.arbiter.queue → (s.bay b).sameWant y) :
    GrantsKept s (s.setBay b y) := by
  refine of_queue rfl fun i hi => ?_
  rw [setBay_bay]
  split
  next hib => exact hib ▸ hy (hib ▸ hi)
  next => exact ⟨rfl, rfl⟩

/-- A change of a bay in what the arbiter does not read. -/
theorem mapBay (f : Bay → Bay) (hf : ∀ x : Bay, x.sameWant (f x) := by exact fun _ => ⟨rfl, rfl⟩) :
    GrantsKept s (s.mapBay b f) := setBay fun _ => hf _

/-- A charge that falls is an evaluation event; one that rises makes nothing fit (R46, R72). -/
theorem reportDraw (charge : Nat) : GrantsKept s (s.reportDraw b charge) := by
  rcases Nat.lt_trichotomy charge (atBay s.arbiter.charges b) with hc | hc | hc
  · rw [reportDraw_falls hc]
    exact evaluated ..
  · rw [reportDraw_same hc]
    exact refl s
  · rw [reportDraw_rises hc]
    refine ⟨fun h hg ht c hcand => ?_⟩
    have hold : s.fits c = false := h hg ht c hcand
    have hsum := sum_putBay s.arbiter.charges b charge
    rw [← Bool.not_eq_true, fits_iff] at hold ⊢
    refine fun hfit => hold (le_trans ?_ hfit)
    simp only [Arbiter.committed, setArbiter_arbiter, setArbiter_bay]
    omega

/-! ## Transitions of a bay -/

theorem withMark (reason : BayReason) : GrantsKept s (s.mapBay b (·.withMark reason)) :=
  mapBay s b _ fun x => by rw [withMark_eq]; exact ⟨rfl, rfl⟩

theorem toStopping : GrantsKept s (s.toStopping b) := (mapBay ..).trans (reportDraw ..)

theorem toStopped : GrantsKept s (s.toStopped b) := (mapBay ..).trans (postBay ..)

theorem toUnloading : GrantsKept s (s.toUnloading b) := mapBay ..

theorem toFaulted (reason : BayReason) (found : BayState) : GrantsKept s (s.toFaulted b reason found) :=
  (((mapBay ..).trans (reportDraw ..)).trans (handOn ..)).trans (postBay ..)

theorem loadTest : GrantsKept s (s.loadTest b) := by
  unfold State.loadTest
  split
  · exact mapBay ..
  · exact refl s

theorem afterSpinning : GrantsKept s (s.afterSpinning b) := by
  unfold State.afterSpinning
  split
  · exact loadTest ..
  · exact toUnloading ..

theorem toSpinningProven : GrantsKept s (s.toSpinningProven b) :=
  (((mapBay ..).trans (postBay ..)).trans (reportDraw ..)).trans (afterSpinning ..)

theorem toSpinningUnloaded : GrantsKept s (s.toSpinningUnloaded b) :=
  ((mapBay ..).trans (postBay ..)).trans (afterSpinning ..)

theorem joinQueue : GrantsKept s (s.joinQueue b) := evaluated ..

theorem queueIfWanted : GrantsKept s (s.queueIfWanted b) := by
  simp only [State.queueIfWanted]
  split
  · exact joinQueue ..
  · exact refl s

theorem speedLost : GrantsKept s (s.speedLost b) := by
  simp only [State.speedLost]
  refine (mapBay s b fun x => { x with watchArmed := false }).trans ?_
  split
  · exact (withMark ..).trans (toStopping ..)
  · exact (withMark ..).trans (toUnloading ..)
  · exact (withMark ..).trans (toUnloading ..)
  · exact withMark ..
  all_goals exact refl _

/-! ## Commands of a bay -/

theorem takeUnseat : GrantsKept s (takeUnseat b s) := by
  simp only [Machine.takeUnseat]
  split
  · split
    next => exact mapBay ..
    next => exact mapBay ..
    next => exact mapBay ..
    next => exact evaluated ..
    all_goals exact (mapBay ..).trans (toFaulted ..)
  · exact refl s

theorem takeReseat : GrantsKept s (takeReseat b s) := by
  simp only [Machine.takeReseat]
  split
  · exact refl s
  · exact (mapBay ..).trans (queueIfWanted ..)

theorem takePrkRelease : GrantsKept s (takePrkRelease b s) := by
  simp only [Machine.takePrkRelease]
  split
  · refine (mapBay s b fun x => { x with prkLevel := false, prkAgree := 0 }).trans ?_
    split
    next => exact toUnloading ..
    next => exact (mapBay ..).trans (postBay ..)
    all_goals exact refl _
  · exact refl s

theorem takePrkAssertion : GrantsKept s (takePrkAssertion b s) := by
  simp only [Machine.takePrkAssertion]
  split
  · exact refl s
  · refine (mapBay s b fun x => { x with prkLevel := true, prkAgree := 0 }).trans ?_
    split
    next => exact (withMark ..).trans (toUnloading ..)
    all_goals exact refl _

theorem takeGuardExpiry : GrantsKept s (takeGuardExpiry b s) := by
  simp only [Machine.takeGuardExpiry]
  split
  · exact mapBay ..
  · exact refl s

theorem takeCompletionTest : GrantsKept s (takeCompletionTest b s) := by
  simp only [Machine.takeCompletionTest]
  split
  · split
    · exact toSpinningUnloaded ..
    · exact toStopping ..
  · exact refl s

theorem takeLoadTimeout : GrantsKept s (takeLoadTimeout b s) := by
  simp only [Machine.takeLoadTimeout]
  split
  · exact (withMark ..).trans (toUnloading ..)
  · exact refl s

theorem takeUnloadTimeout : GrantsKept s (takeUnloadTimeout b s) := by
  simp only [Machine.takeUnloadTimeout]
  split
  · exact ((withMark ..).trans (toStopping ..)).trans (handOn ..)
  · exact refl s

theorem takeForcedUnload : GrantsKept s (takeForcedUnload b s) := by
  simp only [Machine.takeForcedUnload]
  split
  · exact (toUnloading ..).trans (handOn ..)
  · exact refl s

theorem takeStopOrder : GrantsKept s (takeStopOrder b s) := by
  simp only [Machine.takeStopOrder]
  refine (mapBay s b fun x => { x with stopHeld := true }).trans ?_
  split
  iterate 3 exact (mapBay ..).trans (toStopping ..)
  iterate 2 exact ((mapBay ..).trans (toUnloading ..)).trans (handOn ..)
  · exact mapBay ..
  all_goals exact refl _

theorem takeLoadPermission (allowed : Bool) : GrantsKept s (takeLoadPermission b allowed s) := by
  simp only [Machine.takeLoadPermission]
  split
  · exact (mapBay ..).trans (loadTest ..)
  · exact mapBay ..

theorem takeRampStep : GrantsKept s (takeRampStep b s) := by
  simp only [Machine.takeRampStep]
  split
  · exact mapBay ..
  · exact refl s

theorem takeSpinupTimeout : GrantsKept s (takeSpinupTimeout b s) := by
  simp only [Machine.takeSpinupTimeout]
  split
  · exact (withMark ..).trans (toStopping ..)
  · exact refl s

theorem takeSettleTimeout : GrantsKept s (takeSettleTimeout b s) := by
  simp only [Machine.takeSettleTimeout]
  split
  · exact (withMark ..).trans (toStopping ..)
  · exact refl s

theorem takeSilence : GrantsKept s (takeSilence b s) := by
  simp only [Machine.takeSilence]
  split
  · split
    · exact (mapBay ..).trans (speedLost ..)
    · exact mapBay ..
  · exact refl s

theorem takeTachQuiet : GrantsKept s (takeTachQuiet b s) := by
  simp only [Machine.takeTachQuiet]
  split
  · split
    · exact toFaulted ..
    · exact (toStopped ..).trans (queueIfWanted ..)
  · exact refl s

theorem takeStopTimeout : GrantsKept s (takeStopTimeout b s) := by
  simp only [Machine.takeStopTimeout]
  split
  · exact toFaulted ..
  · exact refl s

theorem testPeriod (period : Nat) : GrantsKept s (s.testPeriod b period) := by
  by_cases hp : (s.bay b).state.proven = true
  · rw [testPeriod_proven period hp]
    dsimp only
    split
    · exact (mapBay ..).trans (speedLost ..)
    · exact mapBay ..
  simp only [State.testPeriod]
  split
  next =>
    split
    · exact mapBay ..
    · exact refl s
  next =>
    split
    · split
      · exact (mapBay ..).trans (toSpinningProven ..)
      · exact mapBay ..
    · exact mapBay ..
  iterate 4 exact absurd (by simp [proven_iff, *]) hp
  all_goals exact refl s

theorem takeTachEdge (us : Nat) : GrantsKept s (takeTachEdge b us s) := by
  simp only [Machine.takeTachEdge]
  split
  · split
    · exact mapBay ..
    · exact ((mapBay ..).trans (mapBay ..)).trans (testPeriod ..)
  · exact refl s

/-! ## Commands of the arbiter (R73, R82, R83) -/

/-- Only an opening of the gate could leave a grant behind, and it is an evaluation event. -/
theorem takeSpinGate (opened : Bool) : GrantsKept s (takeSpinGate opened s) := by
  simp only [Machine.takeSpinGate]
  split
  next => exact evaluated ..
  next hn =>
    rcases opened with _ | _
    · exact closed rfl
    · have hg : s.arbiter.gateOpen = true := by simpa using hn
      exact frame rfl (by rw [setArbiter_arbiter, ← hg])

theorem takeSource (src : Source) : GrantsKept s (takeSource src s) := evaluated ..

theorem takeSpacingExpiry : GrantsKept s (takeSpacingExpiry s) := by
  simp only [Machine.takeSpacingExpiry]
  split
  · exact evaluated ..
  · exact refl s

end

/-! ## Aims, clears and setups (R3, R8, R9, R21, R70) -/

theorem actOnAim (s : State) (b : BayId) (target : Intent) : GrantsKept s (s.actOnAim b target) := by
  unfold State.actOnAim
  split
  next =>
    split
    · exact refl s
    · exact joinQueue ..
  next =>
    split
    · exact evaluated ..
    · exact refl s
  next =>
    split
    · exact toStopping ..
    · exact refl s
  next =>
    split
    · exact toStopping ..
    · exact refl s
  next =>
    split
    · exact toStopping ..
    · exact refl s
    · exact loadTest ..
  next =>
    split
    · exact refl s
    · exact toUnloading ..
  next =>
    split
    · exact refl s
    · exact toUnloading ..
  all_goals exact refl s

section
variable {s : State} (hq : s.queueLawful)
include hq

/-- A priority set on a bay: on a waiting bay that held another it is an evaluation event, of any other bay the arbiter
reads nothing new (R9, R70). -/
theorem priorityChanged (b : BayId) {f : Bay → Bay} (hs : (f (s.bay b)).state = (s.bay b).state)
    (hd : (f (s.bay b)).desc = (s.bay b).desc) :
    GrantsKept s ((s.mapBay b f).priorityChanged b (s.bay b).priority (f (s.bay b)).priority) := by
  simp only [State.priorityChanged, mapBay_bay_same, hs, Bool.and_eq_true, decide_eq_true_eq]
  split
  next => exact evaluated ..
  next hn =>
    refine setBay fun hb => ⟨?_, by rw [hd]⟩
    by_contra hp
    exact hn ⟨(hq.2 b).mp hb, Ne.symm hp⟩

theorem aimBay (b : BayId) (target : Intent) (level : Fin 4) : GrantsKept s (s.aimBay b target level).2 := by
  simp only [State.aimBay]
  split
  next => exact refl s
  next => exact refl s
  next => exact refl s
  next hn =>
    obtain ⟨-, -, hs, -⟩ := aimOutcome_notSeated_iff.mp hn
    exact setBay fun hb => absurd hb (not_mem_queue hq (by simp [hs]))
  next => exact priorityChanged hq b (f := fun x => { x with priority := level }) rfl rfl
  next =>
    split
    next => exact priorityChanged hq b (f := fun x => { x with intent := target, priority := level }) rfl rfl
    next hn =>
      by_cases hb : b ∈ s.arbiter.queue
      · have hs := (hq.2 b).mp hb
        have ht : target = .off := by simpa [hs] using hn
        simpa [State.actOnAim, hs, ht] using evaluated ..
      · exact (setBay fun hm => absurd hm hb).trans (actOnAim ..)

/-- A setup is accepted of bays that do not wait. -/
theorem setUp {b : BayId} (hs : setupAllowed (s.bay b).state = true) (d : Descriptor) : GrantsKept s (s.setUp b d) := by
  have hb : b ∉ s.arbiter.queue := not_mem_queue hq fun hw => by rw [hw] at hs; cases hs
  have stored : GrantsKept s (s.mapBay b (·.withDescriptor d)) := setBay fun hm => absurd hm hb
  refine stored.trans ?_
  unfold State.setUp State.applyAccess
  split
  next => exact refl _
  next => exact (mapBay ..).trans (toStopped ..)
  next => exact (mapBay ..).trans (toStopped ..)
  next => exact (mapBay ..).trans (postBay ..)
  next => exact (mapBay ..).trans (postBay ..)
  next => exact mapBay ..
  all_goals exact refl _

end

theorem aimAll (target : Intent) (level : Fin 4) : ∀ (bs : List BayId) {s : State}, s.queueLawful →
    GrantsKept s (Machine.aimAll target level bs s).2
  | [], s, _ => refl s
  | b :: bs, s, hq =>
    (aimBay hq b target level).trans (aimAll target level bs ((BayMoves.aimBay s b target level).queueLawful hq))

theorem clearAll : ∀ (bs : List BayId) (s : State), GrantsKept s (Machine.clearAll bs s).2
  | [], s => refl s
  | b :: bs, s => by
    refine trans (t := (s.clearBay b).2) ?_ (clearAll bs _)
    unfold State.clearBay
    split
    · exact toStopped ..
    · exact refl s

/-! ## Requests and the link -/

section
variable {s : State} (hq : s.queueLawful)
include hq

theorem carryOut (r : Request) : GrantsKept s (carryOut r s).2 := by
  cases r with
  | baySetup bay d =>
    simp only [Machine.carryOut, workBaySetup]
    split
    next => exact refl s
    next =>
      split
      next hs => exact (setUp hq hs _).trans (of_policy (.policyTable ..))
      next => exact refl s
  | bayAim bays target priority =>
    simp only [Machine.carryOut, workBayAim]
    split
    · exact refl s
    · exact aimAll _ _ _ hq
  | bayClear bays =>
    simp only [Machine.carryOut, workBayClear]
    split
    · exact refl s
    · exact clearAll ..
  | bayQuery bay => simp only [Machine.carryOut, workBayQuery]; split <;> exact refl s
  | bayDescribe bay => simp only [Machine.carryOut, workBayDescribe]; split <;> exact refl s
  | motionSetup r => exact of_motion (.motionSetup ..)
  | powerSetup r => exact evaluated ..
  | powerQuery =>
    simp only [Machine.carryOut, workPowerQuery]
    split
    · exact frame rfl rfl
    · exact refl s
  | caseSetup r => exact of_policy (.caseSetup ..)
  | noticeMask mask => exact frame rfl rfl
  | noticeFetch =>
    simp only [Machine.carryOut, workNoticeFetch]
    split
    · exact refl s
    · exact frame rfl rfl
  | faultRead =>
    simp only [Machine.carryOut, workFaultRead]
    split
    · exact refl s
    · exact frame rfl rfl
  | ident | restart | motionQuery | trace | episodes | caseQuery | noticeStatus => exact refl s

theorem dispatch (item : Item) : GrantsKept s (s.dispatch item) := by
  have accepted : GrantsKept s s.acceptedRequest := of_policy (.acceptedRequest s)
  cases item with
  | request r =>
    have hq' := (BayMoves.of_policy (.acceptedRequest s)).queueLawful hq
    exact (accepted.trans (carryOut hq' r)).trans (frame rfl rfl)
  | badSize kind => exact accepted.trans (frame rfl rfl)
  | linkError code detail => exact frame rfl rfl

theorem itemMade (item : Item) : GrantsKept s (s.itemMade item) := by
  unfold State.itemMade
  split
  · exact dispatch hq item
  · split <;> exact setLink ..

theorem receive (c : Byte) : GrantsKept s (s.receive c) := by
  have hunts : ∀ item, GrantsKept s (s.hunts.itemMade item) := fun item =>
    (setLink ..).trans (itemMade (s := s.hunts) hq item)
  unfold State.receive
  split <;> split
  · exact setLink ..
  · exact refl s
  · exact setLink ..
  · exact hunts _
  · exact setLink ..
  · split <;> exact hunts _

theorem takeCharacter (data : Byte) (stopHigh : Bool) : GrantsKept s (takeCharacter data stopHigh s) := by
  unfold Machine.takeCharacter
  split
  · refine (setLink ..).trans (receive ?_ data)
    exact hq
  · exact refl s

theorem takeGap : GrantsKept s (takeGap s) := by
  unfold Machine.takeGap
  split
  · exact (setLink ..).trans (itemMade (s := s.hunts) hq _)
  · exact refl s

theorem takeEndOfReply : GrantsKept s (takeEndOfReply s) := by
  unfold Machine.takeEndOfReply
  split
  · exact refl s
  · refine trans (frame ?_ ?_) (of_policy (.restartSupervision _)) <;> rfl
  · split
    · exact setLink ..
    · refine (setLink ..).trans (dispatch ?_ _)
      exact hq

end

section
variable (s : State)

theorem takeCapture (c : Capture) : GrantsKept s (takeCapture c s) := by
  unfold Machine.takeCapture
  split <;> exact frame rfl rfl

theorem takeLapse : GrantsKept s (takeLapse s) := by
  unfold Machine.takeLapse
  split
  · refine trans (frame ?_ ?_) (of_policy (.reevaluate _)) <;> rfl
  · exact refl s

/-! ## Reset and the clock -/

/-- A full reset closes the gate (R87). -/
theorem fullReset (phase : Phase) (cause : ResetCause) (inputs : Inputs) (drawn : Nat) (pending : List Instr) :
    GrantsKept s (State.fullReset phase cause inputs drawn pending) := closed rfl

theorem takeResetRelease : GrantsKept s (takeResetRelease s) := by
  unfold Machine.takeResetRelease
  split
  · exact fullReset ..
  · exact refl s
  · exact refl s

theorem takeStartUpEnd : GrantsKept s (takeStartUpEnd s) := by
  unfold Machine.takeStartUpEnd
  split
  · exact refl s
  · split
    · exact frame rfl rfl
    · exact refl s
  · exact refl s

theorem tick : GrantsKept s s.tick := by
  unfold State.tick
  split
  · exact refl s
  · exact frame rfl rfl
  · refine trans (t := s.sampled) (of_queue rfl fun i _ => ?_) (handOn ..)
    rw [sampled_bay]
    exact ⟨rfl, rfl⟩

end

/-! ## Every command and every step -/

section
variable {s t : State}

theorem event {c : Instr} {f : State → State} (h : s.event c f = .next t)
    (hf : GrantsKept (s.taken c) (f (s.taken c))) : GrantsKept s t := by
  rcases event_next h with ⟨-, rfl⟩ | ⟨-, rfl⟩
  · exact (taken s c).trans hf
  · exact taken s c

/-- No command leaves a grant undone. -/
theorem exec (hq : s.queueLawful) (c : Instr) (h : exec c s = .next t) : GrantsKept s t := by
  have hq' : (s.taken c).queueLawful := hq
  cases c with
  | ident | restart | baySetup | bayAim | bayClear | bayQuery | bayDescribe | motionSetup | motionQuery | trace
  | episodes | powerSetup | powerQuery | caseSetup | caseQuery | noticeMask | noticeFetch | noticeStatus | faultRead =>
    exact event h (itemMade hq' _)
  | characterReception => exact event h (takeCharacter hq' ..)
  | gapError => exact event h (takeGap hq')
  | endOfReply => exact event h (takeEndOfReply hq')
  | powerOn | brownout | pinReset => cases h; exact fullReset ..
  | resetRelease => cases h; exact (taken ..).trans (takeResetRelease _)
  | startUpIntervalEnd => cases h; exact (taken ..).trans (takeStartUpEnd _)
  | unseat => exact event h (takeUnseat ..)
  | reseat => exact event h (takeReseat ..)
  | prkRelease => exact event h (takePrkRelease ..)
  | prkAssertion => exact event h (takePrkAssertion ..)
  | unloadGuardExpiry => exact event h (takeGuardExpiry ..)
  | unloadCompletion => exact event h (takeCompletionTest ..)
  | tachEdge => exact event h (takeTachEdge ..)
  | rampStep => exact event h (takeRampStep ..)
  | spinupTimeout => exact event h (takeSpinupTimeout ..)
  | settleTimeout => exact event h (takeSettleTimeout ..)
  | silenceTimerExpiry => exact event h (takeSilence ..)
  | tachQuiet => exact event h (takeTachQuiet ..)
  | stopTimeout => exact event h (takeStopTimeout ..)
  | loadTimeout => exact event h (takeLoadTimeout ..)
  | unloadTimeout => exact event h (takeUnloadTimeout ..)
  | forcedUnloadOrder => exact event h (takeForcedUnload ..)
  | stopOrder => exact event h (takeStopOrder ..)
  | stopOrderLift | pwmPeriodBoundary => exact event h (mapBay ..)
  | loadPermissionReport => exact event h (takeLoadPermission ..)
  | spinGateReport => exact event h (takeSpinGate ..)
  | sourceReport => exact event h (takeSource ..)
  | spacingTimerExpiry => exact event h (takeSpacingExpiry _)
  | drdyEdge => exact event h (of_motion (.takeDrdy _))
  | identityReadComplete => exact event h (of_motion (.takeIdentity ..))
  | setupWindowExpiry => exact event h (of_motion (.takeWindowExpiry _))
  | retryTimerExpiry => exact event h (of_motion (.takeRetryExpiry _))
  | drdyWatchExpiry => exact event h (of_motion (.takeWatchExpiry _))
  | sampleArrival => exact event h (of_motion (.takeArrival ..))
  | quietTimerExpiry => exact event h (of_motion (.takeQuietExpiry _))
  | quietRestartRequest => exact event h (of_motion (.takeQuietRestart _))
  | unloadReport => exact event h (of_motion (.takeUnloadReport _))
  | strandingReport => exact event h (of_motion (.takeStrandingReport _))
  | motionVerdictHandoff => exact event h (of_policy (.takeVerdict ..))
  | supplyStateReport => exact event h (of_policy (.takeSupplyState ..))
  | caseInputAssertion => exact event h (of_policy (.takeAssertion ..))
  | caseInputRelease => exact event h (of_policy (.takeRelease ..))
  | supervisionLapse => exact event h (takeLapse _)
  | supplySample | noticePost => exact event h (frame rfl rfl)
  | faultCapture => exact event h (takeCapture ..)

theorem step (hq : s.queueLawful) (h : step s = .next t) : GrantsKept s t := by
  unfold Machine.step at h
  split at h
  next c rest _ => exact trans (t := { s with pending := rest }) (frame rfl rfl) (exec hq c h)
  next =>
    split at h
    next => exact exec hq _ h
    next => cases h; exact tick s

end

end GrantsKept

/-- Settles O35: what could make a candidate fit (a charge that falls, a setting, a priority, an entry of the queue, the
gate, the timer) ends in an evaluation, and an evaluation leaves no grant undone. -/
theorem stepsLeaveNoGrantUndone : Obligations.StepsLeaveNoGrantUndone :=
  fun _ _ hq hg h => ⟨step_queueLawful hq h, (GrantsKept.step hq h).done hg⟩

end Sys2Proof.Machine
end

section
/-! SUPPORT. The candidate (R76, R77): the levels from the highest down, in each the bays in the order of search. -/

namespace Sys2Proof.Machine

/-! ## The first of a list in order -/

/-- In a list in the order of `r`, what is found first stands before all else that could be found. -/
theorem find?_first {α : Type} {r : α → α → Prop} {p : α → Bool} {l : List α} {a : α} (hl : l.Pairwise r)
    (h : l.find? p = some a) {i : α} (hi : i ∈ l) (hp : p i = true) : i = a ∨ r a i := by
  obtain ⟨-, front, rest, rfl, hfront⟩ := List.find?_eq_some_iff_append.mp h
  rcases List.mem_append.mp hi with hf | hr
  · exact absurd hp (by simpa using hfront i hf)
  · rcases List.mem_cons.mp hr with rfl | hr
    · exact .inl rfl
    · exact .inr (List.rel_of_pairwise_cons (List.pairwise_append.mp hl).2.1 hr)

/-! ## The order of search (R76, R77) -/

/-- The place of a bay in a level's order of search. -/
def Arbiter.place (a : Arbiter) (level : Fin 4) (i : BayId) : Nat :=
  match a.mode with
  | .fixed => i.val
  | .rotate => (i.val + 12 - (a.pointer level).val) % 12

theorem place_fixed {a : Arbiter} (h : a.mode = .fixed) (level : Fin 4) (i : BayId) : a.place level i = i.val := by
  simp [Arbiter.place, h]

/-- Counting up from the pointer, the bay `i` further on has place `i`. -/
theorem place_rotate {a : Arbiter} (h : a.mode = .rotate) (level : Fin 4) (i : BayId) :
    a.place level (a.pointer level + i) = i.val := by
  simp only [Arbiter.place, h, Fin.val_add]
  omega

theorem place_injective (a : Arbiter) (level : Fin 4) {i j : BayId} (h : a.place level i = a.place level j) : i = j := by
  rcases hm : a.mode
  · rw [place_fixed hm, place_fixed hm] at h
    exact Fin.ext h
  · rw [← add_sub_cancel (a.pointer level) i, ← add_sub_cancel (a.pointer level) j,
      place_rotate hm, place_rotate hm] at h
    exact sub_left_injective (Fin.ext h)

theorem mem_searchOrder (a : Arbiter) (level : Fin 4) (i : BayId) : i ∈ a.searchOrder level := by
  rcases hm : a.mode <;> simp only [Arbiter.searchOrder, hm]
  · exact mem_bayIds i
  · exact List.mem_map.mpr ⟨i - a.pointer level, mem_bayIds _, add_sub_cancel _ _⟩

theorem searchOrder_pairwise (a : Arbiter) (level : Fin 4) :
    (a.searchOrder level).Pairwise fun i j => a.place level i < a.place level j := by
  have ascending : bayIds.Pairwise fun i j => i.val < j.val := by decide
  rcases hm : a.mode
  · simpa only [Arbiter.searchOrder, hm, place_fixed hm] using ascending
  · simpa only [Arbiter.searchOrder, hm, List.pairwise_map, place_rotate hm] using ascending

/-! ## The candidate -/

/-- A bay that can be the candidate: queued and not OVERSIZE. -/
def State.able (s : State) (i : BayId) : Prop := i ∈ s.arbiter.queue ∧ (s.bay i).desc.peakDraw ≤ s.arbiter.budget

/-- The first bay of one level, in its order of search, that can be the candidate. -/
def State.firstOf (s : State) (level : Fin 4) : Option BayId :=
  (s.arbiter.searchOrder level).find? fun b =>
    s.arbiter.queue.contains b && !s.oversize b && decide ((s.bay b).priority = level)

theorem candidate_eq (s : State) : s.candidate = ([3, 2, 1, 0] : List (Fin 4)).findSome? s.firstOf := rfl

section
variable {s : State} {level : Fin 4} {b : BayId}

theorem able_iff {i : BayId} :
    (s.arbiter.queue.contains i && !s.oversize i && decide ((s.bay i).priority = level)) = true ↔
      s.able i ∧ (s.bay i).priority = level := by
  simp [State.able, State.oversize]

theorem firstOf_none (h : s.firstOf level = none) {i : BayId} (hi : s.able i) : (s.bay i).priority ≠ level :=
  fun hp => List.find?_eq_none.mp h i (mem_searchOrder _ _ i) (able_iff.mpr ⟨hi, hp⟩)

theorem firstOf_some (h : s.firstOf level = some b) : s.able b ∧ (s.bay b).priority = level :=
  able_iff.mp (List.find?_eq_some_iff_append.mp h).1

theorem firstOf_place (h : s.firstOf level = some b) {i : BayId} (hi : s.able i) (hp : (s.bay i).priority = level) :
    s.arbiter.place level b ≤ s.arbiter.place level i := by
  rcases find?_first (searchOrder_pairwise _ _) h (mem_searchOrder _ _ i) (able_iff.mpr ⟨hi, hp⟩) with rfl | hlt
  · exact le_rfl
  · exact hlt.le

/-- A bay comes before every other that can be the candidate: by level, and within its level by place. -/
def State.leads (s : State) (b : BayId) : Prop :=
  s.able b ∧ ∀ i, s.able i → (s.bay i).priority ≤ (s.bay b).priority ∧
    ((s.bay i).priority = (s.bay b).priority →
      s.arbiter.place (s.bay b).priority b ≤ s.arbiter.place (s.bay b).priority i)

theorem candidate_leads (h : s.candidate = some b) : s.leads b := by
  rw [candidate_eq, List.findSome?_eq_some_iff] at h
  obtain ⟨higher, level, lower, hl, hb, hnone⟩ := h
  obtain ⟨hable, rfl⟩ := firstOf_some hb
  refine ⟨hable, fun i hi => ⟨?_, firstOf_place hb hi⟩⟩
  have hmem : ∀ p : Fin 4, p ∈ ([3, 2, 1, 0] : List (Fin 4)) := by decide
  have hdown : ([3, 2, 1, 0] : List (Fin 4)).Pairwise (· > ·) := by decide
  have hp := hmem (s.bay i).priority
  rw [hl] at hp hdown
  rcases List.mem_append.mp hp with hh | hr
  · exact absurd rfl (firstOf_none (hnone _ hh) hi)
  · rcases List.mem_cons.mp hr with heq | hr
    · exact heq.le
    · exact (List.rel_of_pairwise_cons (List.pairwise_append.mp hdown).2.1 hr).le

theorem candidate_none_iff : s.candidate = none ↔ ∀ i, ¬ s.able i := by
  refine ⟨fun h i hi => ?_, fun h => ?_⟩
  · rw [candidate_eq, List.findSome?_eq_none_iff] at h
    have hmem : ∀ p : Fin 4, p ∈ ([3, 2, 1, 0] : List (Fin 4)) := by decide
    exact firstOf_none (h _ (hmem (s.bay i).priority)) hi rfl
  · rcases hc : s.candidate with _ | c
    · rfl
    · exact absurd (candidate_leads hc).1 (h c)

theorem leads_unique {c : BayId} (hb : s.leads b) (hc : s.leads c) : b = c := by
  obtain ⟨hab, hb⟩ := hb
  obtain ⟨hac, hc⟩ := hc
  have hp : (s.bay c).priority = (s.bay b).priority := le_antisymm (hb c hac).1 (hc b hab).1
  have hbc := (hb c hac).2 hp
  have hcb := (hc b hab).2 hp.symm
  rw [hp] at hcb
  exact place_injective _ _ (le_antisymm hbc hcb)

theorem candidate_some_iff : s.candidate = some b ↔ s.leads b := by
  refine ⟨candidate_leads, fun h => ?_⟩
  rcases hc : s.candidate with _ | c
  · exact absurd h.1 (candidate_none_iff.mp hc b)
  · rw [leads_unique h (candidate_leads hc)]

end

/-- Settles O36: of two leading bays each has the other's level and no later place, so they are one. -/
theorem candidateIsFirstOfHighestLevel : Obligations.CandidateIsFirstOfHighestLevel :=
  fun _ _ => ⟨candidate_some_iff, candidate_none_iff⟩

end Sys2Proof.Machine
end

section
/-! SUPPORT. POWER_SETUP: what is stored and what is echoed. -/

namespace Sys2Proof.Machine

/-! ## POWER_SETUP (R85, R161, R193) -/

theorem arbModeOf_eq (m : Byte) : arbModeOf m = if m = 0 then .fixed else .rotate := by
  unfold arbModeOf
  simp only [BitVec.toNat_eq]
  split <;> simp_all

theorem modeCode_arbModeOf (m : Byte) : packed (modeCode (arbModeOf m)) = if m = 0 then 0 else 1 := by
  rw [arbModeOf_eq]
  split <;> rfl

/-- A byte brought into a range that a byte holds is changed exactly when it lies outside. -/
theorem ofNat_clamp_eq_iff {lo hi : Nat} (hi' : hi < 256) (h : lo ≤ hi) (x : Byte) :
    BitVec.ofNat 8 (clamp lo hi x.toNat) = x ↔ lo ≤ x.toNat ∧ x.toNat ≤ hi := by
  have hle : clamp lo hi x.toNat ≤ hi := clamp_le h
  rw [BitVec.toNat_eq, BitVec.toNat_ofNat, Nat.mod_eq_of_lt (by omega), clamp_eq _ _ _ h]
  split_ifs <;> omega

/-- A POWER_SETUP record comes back from the stored settings as it was written when every field was in range (R85). -/
theorem powerRecord_withSettings_eq_iff (a : Arbiter) (m : Supply) (r : RawPower) :
    powerRecord (a.withSettings r) (m.withSettings r) = r ↔
      r.mode.toNat < 2 ∧ r.mainsBudget ≠ 0 ∧ r.batteryBudget ≠ 0 ∧ r.warnIndex.toNat < 16 ∧
        r.cutoffIndex.toNat < 16 := by
  have hmode : (if r.mode = 0 then 0 else 1) = r.mode ↔ r.mode.toNat < 2 := by
    simp only [BitVec.toNat_eq]
    split
    next h => simp [h]
    next h => simp only [BitVec.reduceToNat] at h ⊢; omega
  have hbudget : ∀ x : Byte, BitVec.ofNat 8 (clamp 1 255 x.toNat) = x ↔ x ≠ 0 := fun x => by
    rw [ofNat_clamp_eq_iff (by decide) (by decide), ne_eq, BitVec.toNat_eq]
    have := x.isLt
    simp only [BitVec.reduceToNat]
    omega
  have hindex : ∀ x : Byte, BitVec.ofNat 8 (clamp 0 15 x.toNat) = x ↔ x.toNat < 16 := fun x => by
    rw [ofNat_clamp_eq_iff (by decide) (by decide)]
    omega
  rw [← hbudget, ← hbudget, ← hindex, ← hindex, ← hmode, ← modeCode_arbModeOf]
  cases r
  simp [powerRecord, Arbiter.withSettings, Supply.withSettings]

theorem workPowerSetup_eq {s : State} {r : RawPower} {a : Arbiter} {m : Supply} (ha : s.arbiter.withSettings r = a)
    (hm : s.supply.withSettings r = m) :
    workPowerSetup r s =
      ({ result := .ok, clamped := decide (powerRecord a m ≠ r), payload := (powerRecord a m).bytes },
       ((s.setArbiter a).setSupply m).evaluate) := by
  subst ha hm
  rfl

theorem exec_powerSetup {s : State} (h : s.canAnswer) (r : RawPower) :
    exec (.powerSetup r) s =
      let a := workPowerSetup r (s.taken (.powerSetup r)).acceptedRequest
      .next (a.2.sendReply 0xB0 a.1.result a.1.clamped a.1.payload false) := request_answered h.1 h.2 _ _

/-- Settles O39: the settings by `clamp_eq`, CLAMPED by `powerRecord_withSettings_eq_iff`. -/
theorem powerSetupStoresAndEvaluates : Obligations.PowerSetupStoresAndEvaluates := by
  intro r s ha s1 put warn cutoff a m
  have hput : ∀ {lo hi x : Nat}, lo ≤ hi → clamp lo hi x = put lo hi x := fun h => clamp_eq _ _ _ h
  have harb : s1.arbiter.withSettings r = a := by
    simp [Arbiter.withSettings, s1, a, arbModeOf_eq, hput]
  have hsup : s1.supply.withSettings r = m := by
    simp [Supply.withSettings, s1, m, hput, warn, cutoff]
  have hclamped : decide (powerRecord a m ≠ r) =
      decide (2 ≤ r.mode.toNat ∨ r.mainsBudget = 0 ∨ r.batteryBudget = 0 ∨ 16 ≤ r.warnIndex.toNat ∨
        16 ≤ r.cutoffIndex.toNat) := by
    rw [← harb, ← hsup, decide_eq_decide, ne_eq, powerRecord_withSettings_eq_iff]
    simp only [not_and_or, not_lt, not_not]
  have hpayload : (powerRecord a m).bytes =
      [if r.mode = 0 then 0 else 1, r.spacing, BitVec.ofNat 8 a.mainsBudget, BitVec.ofNat 8 a.batteryBudget,
       BitVec.ofNat 8 warn, BitVec.ofNat 8 cutoff] := by
    change [packed (modeCode (if r.mode = 0 then .fixed else .rotate)), BitVec.ofNat 8 r.spacing.toNat, _, _, _, _] = _
    rw [← arbModeOf_eq, modeCode_arbModeOf, BitVec.ofNat_toNat, BitVec.setWidth_eq]
    rfl
  rw [exec_powerSetup ha, workPowerSetup_eq harb hsup, ← hclamped, ← hpayload]

end Sys2Proof.Machine
end

section
/-! SUPPORT. POWER_QUERY and CASE_QUERY: their records byte by byte, their bit sets flag by flag. -/

namespace Sys2Proof.Machine

/-! ## Flags and codes -/

theorem toNat_mul_eq_ite (v : Bool) (n : Nat) : v.toNat * n = if v = true then n else 0 := by cases v <;> simp

/-- Seven flags as the bits of a byte. -/
theorem packed_seven : ∀ a b c d e f g : Bool,
    let p := packed (a.toNat + b.toNat * 2 + c.toNat * 4 + d.toNat * 8 + e.toNat * 16 + f.toNat * 32 + g.toNat * 64)
    p.getLsbD 0 = a ∧ p.getLsbD 1 = b ∧ p.getLsbD 2 = c ∧ p.getLsbD 3 = d ∧ p.getLsbD 4 = e ∧ p.getLsbD 5 = f ∧
      p.getLsbD 6 = g ∧ p.toNat < 128 := by
  decide

theorem modeCode_eq (m : ArbMode) : modeCode m = (decide (m = .rotate)).toNat := by cases m <;> rfl

theorem isMains_eq (src : Source) : src.isMains = decide (src = .mains) := by cases src <;> rfl

theorem isTilted_eq (t : Tilt) : t.isTilted = decide (t = .tilted) := by cases t <;> rfl

theorem isMains_mul (src : Source) (n : Nat) : src.isMains.toNat * n = if src = .mains then n else 0 := by
  simp only [isMains_eq, toNat_mul_eq_ite, decide_eq_true_eq]

theorem isTilted_mul (t : Tilt) (n : Nat) : t.isTilted.toNat * n = if t = .tilted then n else 0 := by
  simp only [isTilted_eq, toNat_mul_eq_ite, decide_eq_true_eq]

theorem actionCode_eq (v : SupAction) : actionCode v = if v = .stop then 1 else 0 := by cases v <;> rfl

theorem supervisionCode_mul (v : Supervision) :
    supervisionCode v * 2 = match v with | .off => 0 | .active _ => 2 | .lapsed => 4 := by cases v <;> rfl

/-! ## POWER_QUERY (R86, R162, R193) -/

theorem exec_powerQuery {s : State} (h : s.canAnswer) :
    exec .powerQuery s =
      let a := workPowerQuery (s.taken .powerQuery).acceptedRequest
      .next (a.2.sendReply 0xB1 a.1.result a.1.clamped a.1.payload false) := request_answered h.1 h.2 _ _

/-- The report of an accepted request changes nothing that the POWER_QUERY record shows. -/
theorem workPowerQuery_accepted (s : State) (c : Instr) :
    workPowerQuery (s.taken c).acceptedRequest =
      ((workPowerQuery s).1,
        if s.candidate = none then (s.taken c).acceptedRequest.drawFree else (s.taken c).acceptedRequest) := by
  simp only [workPowerQuery, Option.isNone_iff_eq_none]
  obtain ⟨_, _, h⟩ := PolicyWork.acceptedRequest (s.taken c)
  rw [h]
  rfl

theorem powerFirst_bits (s : State) (fits : Bool) :
    let bits := s.powerFirst fits
    (bits.getLsbD 0 = true ↔ s.arbiter.mode = .rotate) ∧ (bits.getLsbD 1 = true ↔ s.arbiter.source = .mains) ∧
    (bits.getLsbD 2 = true ↔ s.arbiter.budget < s.arbiter.committed) ∧
    (bits.getLsbD 3 = true ↔ s.arbiter.gateOpen = true) ∧
    (bits.getLsbD 4 = true ↔ s.arbiter.spacingTimer ≠ .idle) ∧ bits.getLsbD 5 = fits ∧ bits.toNat < 64 := by
  obtain ⟨h0, h1, h2, h3, h4, h5, hlt⟩ := packed_six (decide (s.arbiter.mode = .rotate))
    (decide (s.arbiter.source = .mains)) (decide (s.arbiter.budget < s.arbiter.committed)) s.arbiter.gateOpen
    (decide (s.arbiter.spacingTimer ≠ .idle)) fits
  simp only [State.powerFirst, modeCode_eq, isMains_eq, h0, h1, h2, h3, h4, h5, decide_eq_true_eq, true_and]
  exact hlt

theorem remaining_reached {now e : Clock} (h : reached now e = true) : remaining now e = 0 := by simp [remaining, h]

theorem remaining_ahead {now e : Clock} (h : reached now e = false) : remaining now e = (e - now).toNat := by
  simp [remaining, h]

/-- An expiry that is still ahead is at least 1 ms away. -/
theorem one_le_remaining {now e : Clock} (h : reached now e = false) : 1 ≤ remaining now e := by
  rw [remaining_ahead h, Nat.one_le_iff_ne_zero]
  intro h0
  have he : e = now := sub_eq_zero.mp (BitVec.eq_of_toNat_eq h0)
  rw [he, reached_self] at h
  cases h

theorem spacingRemaining_running (now e : Clock) :
    spacingRemaining now (.running e) = if reached now e = true then 1 else BitVec.ofNat 16 (e - now).toNat := by
  rcases h : reached now e
  · rw [spacingRemaining, max_eq_right (one_le_remaining h), remaining_ahead h]
    rfl
  · rw [spacingRemaining, remaining_reached h]
    rfl

/-! ## CASE_QUERY (R151, R196) -/

theorem exec_caseQuery {s : State} (h : s.canAnswer) :
    exec .caseQuery s =
      let a := workCaseQuery (s.taken .caseQuery).acceptedRequest
      .next (a.2.sendReply 0xC1 a.1.result a.1.clamped a.1.payload false) := request_answered h.1 h.2 _ _

theorem closingCauses_bits (p : Policy) :
    let causes := p.closingCauses
    (causes.getLsbD 0 = true ↔ p.classSeen = .unprimed ∨ p.classSeen = .rough) ∧
    (causes.getLsbD 1 = true ↔ p.tiltSeen = .tilted) ∧ (causes.getLsbD 2 = true ↔ p.quietSeen = false) ∧
    (causes.getLsbD 3 = true ↔ p.supplySeen = .critical) ∧ (causes.getLsbD 4 = true ↔ p.supervision = .lapsed) ∧
    (causes.getLsbD 5 = true ↔ p.handleMode = .level ∧ p.handleState = true) ∧
    (causes.getLsbD 6 = true ↔ p.lidMode = .level ∧ p.lidState = true) ∧ causes.toNat < 128 := by
  obtain ⟨h0, h1, h2, h3, h4, h5, h6, hlt⟩ := packed_seven
    (decide (p.classSeen = .unprimed) || decide (p.classSeen = .rough)) (decide (p.tiltSeen = .tilted)) (!p.quietSeen)
    (decide (p.supplySeen = .critical)) (decide (p.supervision = .lapsed))
    (decide (p.handleMode = .level) && p.handleState) (decide (p.lidMode = .level) && p.lidState)
  simp only [Policy.closingCauses, isTilted_eq, h0, h1, h2, h3, h4, h5, h6, Bool.or_eq_true, Bool.and_eq_true,
    Bool.not_eq_true', decide_eq_true_eq, true_and]
  exact hlt

/-- Settles O60: both records byte by byte from the model's, their bit sets by `powerFirst_bits`,
`closingCauses_bits` and `baySet_bit`. -/
theorem powerAndCaseAreReported : Obligations.PowerAndCaseAreReported := by
  refine ⟨fun st => by cases st <;> rfl, ?_⟩
  intro s ha a m word left bit
  refine ⟨?_, ?_⟩
  · obtain ⟨h0, h1, h2, h3, h4, h5, hlt⟩ := powerFirst_bits s s.fitsBit
    refine ⟨s.powerFirst s.fitsBit, baySet s.heldOversize, baySet s.heldSpacing, baySet s.heldBudget, ?_, h0, h1, h2,
      h3, h4, fun c hc => ?_, hlt, fun b => ?_, baySet_lt _, baySet_lt _, baySet_lt _⟩
    · rw [exec_powerQuery ha, workPowerQuery_accepted]
      have hspacing : le16 (spacingRemaining s.clock s.arbiter.spacingTimer) =
          match s.arbiter.spacingTimer with
          | .idle => le16 0
          | .running e => if reached s.clock e = true then le16 1 else left e := by
        rcases s.arbiter.spacingTimer with _ | e
        · rfl
        · rw [spacingRemaining_running]
          rcases h : reached s.clock e <;> simp [left, word, h]
      simp only [workPowerQuery, Answer.okay, State.arbiterRecord, State.supplyRecord, State.queueRecord, hspacing,
        isMains_mul, packed]
      simp only [Nat.mul_comm _ 8, Nat.mul_comm _ 16, List.append_assoc, List.cons_append, List.nil_append]
      rfl
    · rw [h5, State.fitsBit, hc]
    · simp only [baySet_bit]
      exact ⟨heldOversize_iff, heldSpacing_iff, heldBudget_iff⟩
  · let p := (s.taken .caseQuery).acceptedRequest.policy
    obtain ⟨h0, h1, h2, h3, h4, h5, h6, hlt⟩ := closingCauses_bits p
    refine ⟨p.closingCauses, baySet (atBay p.loadPermission), baySet (atBay p.flightPermission), ?_, h0, h1, h2, h3, h4,
      h5, h6, hlt, fun b => ⟨baySet_bit .., baySet_bit ..⟩, baySet_lt _, baySet_lt _⟩
    have hleft : le16 (supervisionRemaining s.clock p.supervision) =
        match p.supervision with
        | .active e => left e
        | .off => le16 65535
        | .lapsed => le16 65535 := by
      rcases p.supervision with _ | e | _
      · rfl
      · rcases h : reached s.clock e <;> simp [supervisionRemaining, remaining, left, word, h]
      · rfl
    rw [exec_caseQuery ha]
    simp only [workCaseQuery, Answer.okay, State.caseStatus, accepted_clock, taken_clock, isTilted_mul, actionCode_eq,
      supervisionCode_mul, packed]
    rw [hleft]
    simp only [toNat_mul_eq_ite]
    simp only [Nat.mul_comm _ 4, Nat.mul_comm _ 16, List.append_assoc, List.cons_append, List.nil_append]
    rfl

end Sys2Proof.Machine
end

section
/-! SUPPORT. One arrival measured, field by field: each field of the Motion Unit and each detection from the values
before the arrival. -/

namespace Sys2Proof.Machine

/-! ## What one arrival takes in -/

/-- The activity of an arrival: none at the first of a run, else the distances from the rounded gravity (R95). -/
def Motion.activityOf (m : Motion) (ax ay az : Int) : Nat :=
  if m.runLength = 0 then 0
  else (ax - rounded m.gx).natAbs + (ay - rounded m.gy).natAbs + (az - rounded m.gz).natAbs

/-- The largest distance from the rounded gravity on one axis, none at the first arrival of a run (R100). -/
def Motion.peakOf (m : Motion) (ax ay az : Int) : Nat :=
  if m.runLength = 0 then 0
  else max (ax - rounded m.gx).natAbs (max (ay - rounded m.gy).natAbs (az - rounded m.gz).natAbs)

/-- An axis of the gravity estimate after an arrival; the first of a run seeds it (R96). -/
def Motion.gravityOf (m : Motion) (old a : Int) : Int :=
  if m.runLength = 0 then 256 * a else gravityStep m.settings.gravityShift old a

/-- The arrival's magnitude is below the freefall threshold (R101). -/
def Motion.falls (m : Motion) (ax ay az : Int) : Bool :=
  decide (ax.natAbs + ay.natAbs + az.natAbs < 16 * m.settings.freefallCode)

/-! ## What it measures (R95 to R102) -/

section
variable (m : Motion) (ax ay az : Int)

theorem measure_gx : (m.measure ax ay az).1.gx = m.gravityOf m.gx ax := by simp [Motion.measure, Motion.gravityOf]

theorem measure_gy : (m.measure ax ay az).1.gy = m.gravityOf m.gy ay := by simp [Motion.measure, Motion.gravityOf]

theorem measure_gz : (m.measure ax ay az).1.gz = m.gravityOf m.gz az := by simp [Motion.measure, Motion.gravityOf]

theorem measure_peak : (m.measure ax ay az).2.peak = m.peakOf ax ay az := by simp [Motion.measure, Motion.peakOf]

theorem measure_shock :
    (m.measure ax ay az).2.shock = true ↔ 16 * m.settings.shockCode ≤ (m.measure ax ay az).2.peak :=
  decide_eq_true_iff

theorem measure_ring :
    (m.measure ax ay az).1.ring =
      ({ number := m.sampleCounter, x := ax, y := ay, z := az, activity := m.activityOf ax ay az } :: m.ring).take
        64 := by
  simp [Motion.measure, Motion.activityOf, Config.ringPlaces]

theorem measure_runLength : (m.measure ax ay az).1.runLength = min 64 (m.runLength + 1) := rfl

theorem measure_sum :
    (m.measure ax ay az).1.sum =
      m.sum + m.activityOf ax ay az - m.leaving (windowOf m.settings.windowExponent) := by
  simp [Motion.measure, Motion.activityOf]

theorem measure_level :
    (m.measure ax ay az).1.level = (m.measure ax ay az).1.sum / windowOf m.settings.windowExponent := rfl

theorem measure_priming :
    (m.measure ax ay az).1.priming = min (windowOf m.settings.windowExponent) (m.priming + 1) := rfl

/-- Priming ends at the arrival that fills the window (R99). -/
theorem measure_endOfPriming :
    (m.measure ax ay az).2.endOfPriming = true ↔
      m.priming < windowOf m.settings.windowExponent ∧
        (m.measure ax ay az).1.priming = windowOf m.settings.windowExponent := by
  simp [Motion.measure]

theorem measure_primed :
    (m.measure ax ay az).1.primed = true ↔ m.primed = true ∨ (m.measure ax ay az).2.endOfPriming = true := by
  simp [Motion.measure]

theorem measure_freefallRun :
    (m.measure ax ay az).1.freefallRun = if m.falls ax ay az = true then min 64 (m.freefallRun + 1) else 0 := by
  simp [Motion.measure, Motion.falls, Config.ringPlaces]

/-- A freefall is found at its count, once in each run below the threshold (R101). -/
theorem measure_freefall :
    (m.measure ax ay az).2.freefall = true ↔
      m.settings.freefallCount ≤ (m.measure ax ay az).1.freefallRun ∧
        ¬ (m.falls ax ay az = true ∧ m.freefallReported = true) := by
  simp only [Motion.measure, Motion.falls, Bool.and_eq_true, decide_eq_true_eq]
  split_ifs with hf <;> simp [hf]

theorem measure_freefallReported :
    (m.measure ax ay az).1.freefallReported = true ↔
      (m.falls ax ay az = true ∧ m.freefallReported = true) ∨ (m.measure ax ay az).2.freefall = true := by
  simp [Motion.measure, Motion.falls]

theorem measure_tilt :
    (m.measure ax ay az).1.tilt =
      tiltTest m.tilt m.settings.tiltLimit (m.gravityOf m.gx ax) (m.gravityOf m.gy ay) (m.gravityOf m.gz az) := by
  simp [Motion.measure, Motion.gravityOf]

theorem measure_tiltEntry :
    (m.measure ax ay az).2.tiltEntry = true ↔ m.tilt = .level ∧ (m.measure ax ay az).1.tilt = .tilted := by
  simp [Motion.measure]

theorem measure_tiltExit :
    (m.measure ax ay az).2.tiltExit = true ↔ m.tilt = .tilted ∧ (m.measure ax ay az).1.tilt = .level := by
  simp [Motion.measure]

/-- The tilt test leaves LEVEL when gravity points down too little of Z (R102). -/
theorem tiltTest_level (limit : Nat) (gx gy gz : Int) :
    tiltTest .level limit gx gy gz = .tilted ↔
      rounded gz ≤ 0 ∨
        256 * (rounded gz * rounded gz) <
          (limit : Int) * (rounded gx * rounded gx + rounded gy * rounded gy + rounded gz * rounded gz) := by
  unfold tiltTest
  simp only
  split_ifs with h <;> simp [h]

/-- The tilt test leaves TILTED when gravity points down enough of Z, with a limit raised by 8 (R102). -/
theorem tiltTest_tilted (limit : Nat) (gx gy gz : Int) :
    tiltTest .tilted limit gx gy gz = .level ↔
      0 < rounded gz ∧
        ((min (limit + 8) 256 : Nat) : Int) *
            (rounded gx * rounded gx + rounded gy * rounded gy + rounded gz * rounded gz) ≤
          256 * (rounded gz * rounded gz) := by
  simp [tiltTest]

end

/-- Settles O41: each field and each detection by its `measure_` lemma, the tilt by the test's two sides. -/
theorem arrivalsMeasureInOrder : Obligations.ArrivalsMeasureInOrder := by
  intro m ax ay az n d g vx vy vz seeds activity next w leaving falls run fresh q z
  have hleaving : m.leaving w = leaving := by
    unfold Motion.leaving leaving
    cases m.ring[w - 1]? <;> rfl
  have hfalls : m.falls ax ay az = true ↔ falls := decide_eq_true_iff
  have hrun : n.freefallRun = run := by
    rw [measure_freefallRun]
    exact if_congr hfalls rfl rfl
  have hfresh : ¬ (m.falls ax ay az = true ∧ m.freefallReported = true) ↔ fresh := by rw [hfalls]
  refine ⟨measure_gx .., measure_gy .., measure_gz .., measure_peak .., measure_ring .., rfl, measure_runLength ..,
    ?_, measure_level .., measure_priming .., measure_endOfPriming .., measure_primed .., measure_shock .., hrun, ?_, ?_,
    fun ht => ⟨?_, ?_, ?_⟩, fun ht => ⟨?_, ?_, ?_⟩, rfl⟩
  · rw [← hleaving]
    exact measure_sum ..
  · rw [measure_freefall, hfresh, hrun]
  · rw [measure_freefallReported, ← hfresh, not_not]
  · rw [measure_tilt, ht, tiltTest_level, ← measure_gx, ← measure_gy, ← measure_gz]
    rfl
  · exact (measure_tiltEntry ..).trans (and_iff_right ht)
  · exact Bool.eq_false_iff.mpr fun h => nomatch ht.symm.trans ((measure_tiltExit ..).mp h).1
  · rw [measure_tilt, ht, tiltTest_tilted, ← measure_gx, ← measure_gy, ← measure_gz]
    rfl
  · exact (measure_tiltExit ..).trans (and_iff_right ht)
  · exact Bool.eq_false_iff.mpr fun h => nomatch ht.symm.trans ((measure_tiltEntry ..).mp h).1

end Sys2Proof.Machine
end

section
/-! SUPPORT. The sampling side of the Motion Unit stays lawful: sensor and port, an arrival, new settings. -/

namespace Sys2Proof.Machine

/-! ## Window and gravity -/

/-- The window of settings in range is 8 to 64 arrivals (R98). -/
theorem windowOf_bounds {t : MotionSettings} (h : t.inRange) :
    8 ≤ windowOf t.windowExponent ∧ windowOf t.windowExponent ≤ 64 := by
  obtain ⟨-, ⟨h3, h6⟩, -⟩ := h
  exact ⟨Nat.pow_le_pow_right (n := 2) (by decide) h3, Nat.pow_le_pow_right (n := 2) (by decide) h6⟩

/-- A received value after saturation (R88). -/
def countInRange (a : Int) : Prop := -2048 ≤ a ∧ a ≤ 2047

theorem saturateAxis_inRange (v : Half) : countInRange (saturateAxis v) := by
  unfold countInRange saturateAxis
  omega

theorem rounded_inRange {g : Int} (h : gravityInRange g) : countInRange (rounded g) := by
  obtain ⟨hl, hu⟩ := h
  unfold countInRange rounded
  omega

/-- A part of a difference lies between nothing and all of it. -/
theorem add_ediv_between {g c k lo hi : Int} (hk : 0 < k) (hg : lo ≤ g ∧ g ≤ hi) (hc : lo ≤ c ∧ c ≤ hi) :
    lo ≤ g + (c - g) / k ∧ g + (c - g) / k ≤ hi := by
  rcases le_total g c with h | h
  · have h0 := Int.ediv_nonneg (sub_nonneg.mpr h) hk.le
    have h1 := Int.ediv_le_self k (sub_nonneg.mpr h)
    omega
  · have h0 : (c - g) / k ≤ 0 := Int.ediv_nonpos_of_nonpos_of_neg (by omega) hk
    have h1 : c - g ≤ (c - g) / k := (Int.le_ediv_iff_mul_le hk).mpr (by nlinarith)
    omega

/-- An arrival leaves the gravity estimate in range (R96). -/
theorem gravityOf_inRange (m : Motion) {g a : Int} (hg : gravityInRange g) (ha : countInRange a) :
    gravityInRange (m.gravityOf g a) := by
  obtain ⟨hl, hu⟩ := ha
  have hc : -524288 ≤ 256 * a ∧ 256 * a ≤ 524032 := by omega
  unfold Motion.gravityOf
  split
  · exact hc
  · exact add_ediv_between (by positivity) hg hc

/-! ## Ring and window sum -/

theorem activitySum_cons (e : Sample) (l : List Sample) (n : Nat) :
    activitySum (e :: l) (n + 1) = e.activity + activitySum l n := by simp [activitySum]

theorem activitySum_succ {l : List Sample} {n : Nat} {e : Sample} (h : l[n]? = some e) :
    activitySum l (n + 1) = activitySum l n + e.activity := by
  simp [activitySum, List.take_add_one, h]

theorem activitySum_take (l : List Sample) {n k : Nat} (h : n ≤ k) : activitySum (l.take k) n = activitySum l n := by
  simp [activitySum, List.take_take, h]

section
variable {m : Motion} {ax ay az : Int}

theorem activityOf_le (hx : gravityInRange m.gx) (hy : gravityInRange m.gy) (hz : gravityInRange m.gz)
    (hax : countInRange ax) (hay : countInRange ay) (haz : countInRange az) :
    m.activityOf ax ay az ≤ 12285 ∧ m.peakOf ax ay az ≤ 4095 := by
  obtain ⟨_, _⟩ := rounded_inRange hx
  obtain ⟨_, _⟩ := rounded_inRange hy
  obtain ⟨_, _⟩ := rounded_inRange hz
  obtain ⟨_, _⟩ := hax
  obtain ⟨_, _⟩ := hay
  obtain ⟨_, _⟩ := haz
  unfold Motion.activityOf Motion.peakOf
  split <;> omega

/-- S stays the sum over the window: the newest activity comes in, and from a full window the oldest goes (R98). -/
theorem measure_sum_window (hw : 0 < windowOf m.settings.windowExponent ∧ windowOf m.settings.windowExponent ≤ 64)
    (hl : m.runLength ≤ m.ring.length)
    (hs : m.sum = activitySum m.ring (min (windowOf m.settings.windowExponent) m.runLength)) :
    (m.measure ax ay az).1.sum =
      activitySum (m.measure ax ay az).1.ring
        (min (windowOf m.settings.windowExponent) (m.measure ax ay az).1.runLength) := by
  rw [measure_sum, measure_ring, measure_runLength, activitySum_take _ (by omega), hs]
  generalize windowOf m.settings.windowExponent = w at *
  by_cases hf : w ≤ m.runLength
  · obtain ⟨k, rfl⟩ : ∃ k, w = k + 1 := ⟨w - 1, by omega⟩
    obtain ⟨e, he⟩ : ∃ e, m.ring[k]? = some e := ⟨_, List.getElem?_eq_getElem (by omega)⟩
    have hleaves : m.leaving (k + 1) = e.activity := by simp [Motion.leaving, hf, he]
    rw [show min (k + 1) m.runLength = k + 1 by omega, show min (k + 1) (min 64 (m.runLength + 1)) = k + 1 by omega,
      activitySum_cons, activitySum_succ he, hleaves]
    dsimp only
    omega
  · have hstays : m.leaving w = 0 := by simp [Motion.leaving, hf]
    rw [show min w m.runLength = m.runLength by omega,
      show min w (min 64 (m.runLength + 1)) = m.runLength + 1 by omega, activitySum_cons, hstays]
    dsimp only
    omega

end

/-! ## The class after an arrival -/

theorem classOf_ne_unprimed (t : MotionSettings) (level : Nat) : t.classOf level ≠ .unprimed := by
  unfold MotionSettings.classOf
  split_ifs <;> decide

theorem classFrom_ne_unprimed (t : MotionSettings) (before : MotionClass) (level : Nat) :
    t.classFrom before level ≠ .unprimed := by
  unfold MotionSettings.classFrom
  cases before with
  | unprimed | still => exact classOf_ne_unprimed _ _
  | rolling | rough => dsimp only; split_ifs <;> decide

/-- A primed Motion Unit is judged to a class of its own (R110 to R112). -/
theorem classAfter_ne_unprimed {m : Motion} (h : m.primed = true) (d : Detections) : m.classAfter d ≠ .unprimed := by
  unfold Motion.classAfter
  rw [h]
  split_ifs
  · contradiction
  · decide
  · exact classOf_ne_unprimed _ _
  · exact classFrom_ne_unprimed _ _ _

/-- Until it is primed the class stands (R113). -/
theorem classAfter_of_not_primed {m : Motion} (h : m.primed = false) (d : Detections) : m.classAfter d = m.cls := by
  simp [Motion.classAfter, h]

/-! ## The sampling side kept -/

/-- Without a run there is no priming, and the class is UNPRIMED (R93, R113). -/
theorem no_run_unprimed {m : Motion} (h : m.samplingLawful) (hr : m.runLength = 0) :
    m.priming = 0 ∧ m.primed = false ∧ m.cls = .unprimed := by
  obtain ⟨hset, -, -, -, -, -, hp, hw, hc, -⟩ := h
  have := windowOf_bounds hset
  have hpriming : m.priming = 0 := by omega
  have hprimed : m.primed = false := by
    rw [← Bool.not_eq_true, hw]
    omega
  refine ⟨hpriming, hprimed, ?_⟩
  rw [hprimed] at hc
  simpa using hc

/-- Sensor, port and timers may change while a sensor that is not RUNNING has no run, and only a RUNNING one reads. -/
theorem samplingLawful_sensor {m : Motion} (h : m.samplingLawful) {st : SensorState} {port : Port}
    (hs : st ≠ .running → m.runLength = 0) (hp : port = .reading → st = .running) (watch window retry : Timer)
    (first : Bool) (entry : Clock) :
    { m with
      sensor := st, port := port, watch := watch, window := window, retry := retry, firstSetup := first,
      setupEntry := entry : Motion }.samplingLawful := by
  obtain ⟨hset, hl, hr, hring, hsum, hpw, hpr, hprimed, hcls, hlevel, -, -, hrest⟩ := h
  exact ⟨hset, hl, hr, hring, hsum, hpw, hpr, hprimed, hcls, hlevel, hs, hp, hrest⟩

/-- The measure cleared, with the class UNPRIMED, is lawful (R93, R113). -/
theorem samplingLawful_cleared {m : Motion} (h : m.samplingLawful) :
    { m.clearMeasure with cls := .unprimed : Motion }.samplingLawful := by
  obtain ⟨hset, hl, -, hring, -, -, -, -, -, -, -, hport, hx, hy, hz, -⟩ := h
  have := windowOf_bounds hset
  refine ⟨hset, hl, Nat.zero_le _, hring, ?_, Nat.zero_le _, Nat.zero_le _, ?_, ?_, ?_, fun _ => rfl, hport, hx, hy,
    hz, Nat.zero_le _⟩
  · simp [Motion.clearMeasure, activitySum]
  · simp only [Motion.clearMeasure, Bool.false_eq_true, false_iff]
    omega
  · simp [Motion.clearMeasure]
  · simp [Motion.clearMeasure]

/-- One arrival, measured and judged, leaves the sampling side lawful (R95 to R103, R110 to R113). -/
theorem samplingLawful_arrival {m : Motion} (h : m.samplingLawful) (hrun : m.sensor = .running) {ax ay az : Int}
    (hax : countInRange ax) (hay : countInRange ay) (haz : countInRange az) (now : Clock) :
    ((m.measure ax ay az).1.judge now (m.measure ax ay az).2).samplingLawful := by
  obtain ⟨hset, hl, hr, hring, hsum, hpw, hpr, hprimed, hcls, -, -, -, hx, hy, hz, hf⟩ := h
  obtain ⟨hw8, hw64⟩ := windowOf_bounds hset
  have hact := (activityOf_le hx hy hz hax hay haz).1
  have hsum' := measure_sum_window (ax := ax) (ay := ay) (az := az) ⟨by omega, hw64⟩ hr hsum
  have hprimed' : (m.measure ax ay az).1.primed = true ↔
      (m.measure ax ay az).1.priming = windowOf m.settings.windowExponent := by
    rw [measure_primed, measure_endOfPriming, measure_priming, hprimed]
    omega
  have hcls' : (m.measure ax ay az).1.primed = true ↔
      (m.measure ax ay az).1.classAfter (m.measure ax ay az).2 ≠ .unprimed := by
    rcases hp : (m.measure ax ay az).1.primed
    · have hbefore : m.primed ≠ true := fun h => by
        rw [(measure_primed ..).mpr (.inl h)] at hp
        cases hp
      rw [classAfter_of_not_primed hp]
      have hclass : (m.measure ax ay az).1.cls = .unprimed := not_not.mp fun h => hbefore (hcls.mpr h)
      simpa using hclass
    · simpa using classAfter_ne_unprimed hp _
  have hring' : ∀ e ∈ (m.measure ax ay az).1.ring, e.inRange := fun e he => by
    rw [measure_ring] at he
    rcases List.mem_cons.mp (List.mem_of_mem_take he) with rfl | he
    · exact ⟨hax, hay, haz, hact⟩
    · exact hring e he
  rw [← judge_cls _ now] at hcls'
  obtain ⟨c, es, n, q, k, hj⟩ := judge_keeps (m.measure ax ay az).1 now (m.measure ax ay az).2
  rw [hj] at hcls' ⊢
  refine ⟨hset, ?_, ?_, hring', hsum', Nat.min_le_left _ _, ?_, hprimed', hcls', fun _ => rfl,
    fun h => absurd hrun h, fun _ => hrun, ?_, ?_, ?_, ?_⟩
  · simp [measure_ring]
  · simp only [measure_runLength, measure_ring, List.length_take, List.length_cons]
    omega
  · simp only [measure_priming, measure_runLength]
    omega
  · exact (measure_gx m ax ay az).symm ▸ gravityOf_inRange m hx hax
  · exact (measure_gy m ax ay az).symm ▸ gravityOf_inRange m hy hay
  · exact (measure_gz m ax ay az).symm ▸ gravityOf_inRange m hz haz
  · dsimp only
    rw [measure_freefallRun]
    split <;> omega

/-! ## New settings (R104 to R106, R127) -/

/-- The three thresholds in order: ROLL_ON above the hysteresis, ROUGH_ON above both, within their ranges (R127). -/
theorem orderThresholds_inOrder {roll rough hyst : Nat} (hroll : 1 ≤ roll ∧ roll ≤ 4095)
    (hrough : 1 ≤ rough ∧ rough ≤ 4095) (hhyst : hyst ≤ 63) :
    let t := orderThresholds roll rough hyst
    (1 ≤ t.1 ∧ t.1 ≤ 4095) ∧ (t.1 + t.2.2 < t.2.1 ∧ t.2.1 ≤ 4095) ∧ t.2.2 ≤ 63 ∧ t.2.2 < t.1 := by
  simp only [orderThresholds]
  split_ifs <;> dsimp only <;> omega

theorem motionSettings_ofRaw_inRange (r : RawMotion) : (MotionSettings.ofRaw r).inRange := by
  obtain ⟨hroll, hrough, hhyst⟩ := orderThresholds_inOrder (roll := clamp 1 4095 r.rollOn.toNat)
    (rough := clamp 1 4095 r.roughOn.toNat) (hyst := clamp 0 63 r.hysteresis.toNat)
    ⟨le_clamp, clamp_le (by decide)⟩ ⟨le_clamp, clamp_le (by decide)⟩ (clamp_le (by decide))
  refine ⟨⟨le_clamp, clamp_le ?_⟩, ⟨le_clamp, clamp_le ?_⟩, ⟨le_clamp, clamp_le ?_⟩, ⟨le_clamp, clamp_le ?_⟩,
    ⟨le_clamp, clamp_le ?_⟩, Nat.le_of_lt_succ r.tiltLimit.isLt, hroll, hrough, hhyst, ⟨le_clamp, clamp_le ?_⟩,
    ⟨le_clamp, clamp_le ?_⟩⟩
  all_goals decide

/-- New settings with the window of the old ones leave the sampling side lawful. -/
theorem samplingLawful_settings {m : Motion} (h : m.samplingLawful) {t : MotionSettings} (ht : t.inRange)
    (hw : t.windowExponent = m.settings.windowExponent) : { m with settings := t : Motion }.samplingLawful := by
  obtain ⟨-, hl, hr, hring, hrest⟩ := h
  rw [← hw] at hrest
  exact ⟨ht, hl, hr, hring, hrest⟩

/-- Settings with a new window: S is taken from the ring, a priming begins, and the class is UNPRIMED (R104, R113). -/
def Motion.newWindow (m : Motion) (t : MotionSettings) : Motion :=
  { m with
    settings := t, sum := activitySum m.ring (min (windowOf t.windowExponent) m.runLength), priming := 0,
    primed := false, cls := .unprimed }

theorem samplingLawful_newWindow {m : Motion} (h : m.samplingLawful) {t : MotionSettings} (ht : t.inRange) :
    (m.newWindow t).samplingLawful := by
  obtain ⟨-, hl, hr, hring, -, -, -, -, -, -, hrest⟩ := h
  have := windowOf_bounds ht
  refine ⟨ht, hl, hr, hring, rfl, Nat.zero_le _, Nat.zero_le _, ?_, ?_, ?_, hrest⟩
  · simp only [Motion.newWindow, Bool.false_eq_true, false_iff]
    omega
  · simp [Motion.newWindow]
  · simp [Motion.newWindow]

end Sys2Proof.Machine
end

section
/-! SUPPORT. The class side of the Motion Unit stays lawful: the episode list through an arrival and a report, and the
quiet timer while an episode is open. -/

namespace Sys2Proof.Machine

/-! ## The episode list by its head -/

/-- One record as an arrival or a report leaves it (R120 to R124). -/
def Episode.inRange (e : Episode) : Prop :=
  e.peak ≤ 4095 ∧ e.unloaded ≤ 255 ∧ e.stranded ≤ 255 ∧ (e.shock = true ∨ e.freefall = true)

/-- The laws of the episode list alone: those of `Motion.episodesLawful` that do not speak of the quiet timer. -/
def Motion.listLawful (m : Motion) : Prop :=
  m.episodes.length ≤ 8 ∧ (∀ e ∈ m.episodes.tail, e.duration.isSome = true) ∧ (∀ e ∈ m.episodes, e.inRange) ∧
  ∀ e, m.episodes.head? = some e → e.sequence = m.sequence

theorem episodesLawful_iff {m : Motion} :
    m.episodesLawful ↔
      m.listLawful ∧ (m.openEpisode.isSome = true → ∃ e, m.quiet = .running e) ∧ 1 ≤ m.multiplier ∧
        m.multiplier ≤ 4 := by
  simp only [Motion.episodesLawful, Motion.listLawful, Episode.inRange, and_assoc]

/-- The head of the list may change within its range, its number kept. -/
theorem listLawful_head {m : Motion} {e : Episode} {es : List Episode} (h : m.listLawful) (he : m.episodes = e :: es)
    {e' : Episode} (hr : e.inRange → e'.inRange) (hs : e'.sequence = e.sequence) :
    { m with episodes := e' :: es : Motion }.listLawful := by
  obtain ⟨hl, hclosed, hrange, hseq⟩ := h
  rw [he] at hl hclosed hrange hseq
  refine ⟨hl, hclosed, ?_, ?_⟩
  · rintro x (_ | ⟨_, hx⟩)
    · exact hr (hrange e List.mem_cons_self)
    · exact hrange x (List.mem_cons_of_mem e hx)
  · rintro x ⟨⟩
    exact hs.trans (hseq e rfl)

/-- A change of the open episode within its range keeps the list. -/
theorem listLawful_mapOpen {m : Motion} (h : m.listLawful) {f : Episode → Episode}
    (hr : ∀ e : Episode, e.inRange → (f e).inRange) (hs : ∀ e, (f e).sequence = e.sequence) :
    (m.mapOpen f).listLawful := by
  rcases ho : m.openEpisode with _ | e
  · rwa [mapOpen_none ho]
  · obtain ⟨es, he, hd⟩ := openEpisode_some.mp ho
    rw [mapOpen_cons he hd]
    exact listLawful_head h he (hr e) (hs e)

/-- With no episode open every record of the list is closed. -/
theorem closed_of_openEpisode_none {m : Motion} (h : m.listLawful) (hn : m.openEpisode = none) :
    ∀ e ∈ m.episodes, e.duration.isSome = true := by
  obtain ⟨-, hclosed, -⟩ := h
  rcases hes : m.episodes with _ | ⟨e, es⟩
  · simp
  · rw [openEpisode_cons hes] at hn
    rw [hes] at hclosed
    rintro x (_ | ⟨_, hx⟩)
    · rcases hd : e.duration <;> simp_all
    · exact hclosed x hx

/-- A new episode at the head, found by a shock or a freefall, keeps the list (R120, R123). -/
theorem listLawful_openNew {m : Motion} (h : m.listLawful) (hn : m.openEpisode = none) {d : Detections}
    (hp : d.peak ≤ 4095) (hf : d.shock = true ∨ d.freefall = true) (now : Clock) : (m.openNew now d).listLawful := by
  have hclosed := closed_of_openEpisode_none h hn
  obtain ⟨-, -, hrange, -⟩ := h
  refine ⟨?_, ?_, ?_, ?_⟩
  · simp [Motion.openNew, Config.episodePlaces]
  · exact fun e he => hclosed e (List.mem_of_mem_take he)
  · rintro x (_ | ⟨_, hx⟩)
    · exact ⟨hp, Nat.zero_le _, Nat.zero_le _, hf⟩
    · exact hrange x (List.mem_of_mem_take hx)
  · rintro x ⟨⟩
    rfl

/-! ## An arrival judged -/

/-- The episode work of an arrival keeps the list (R120, R121, R123). -/
theorem listLawful_episodeWork {m : Motion} (h : m.listLawful) {d : Detections} (hp : d.peak ≤ 4095) (now : Clock) :
    (m.episodeWork now d).listLawful := by
  unfold Motion.episodeWork
  split
  next =>
    refine listLawful_mapOpen h (fun e ⟨hpeak, hu, hst, hf⟩ => ⟨max_le hpeak hp, hu, hst, ?_⟩) fun _ => rfl
    rcases hf with hf | hf <;> simp [hf]
  next hn =>
    split
    next hf => exact listLawful_openNew h hn hp (by simpa using hf) now
    next => exact h

/-- After the episode work an episode is open when one was, or when a shock or a freefall has opened one. -/
theorem openEpisode_episodeWork {m : Motion} {now : Clock} {d : Detections}
    (h : (m.episodeWork now d).openEpisode.isSome = true) :
    m.openEpisode.isSome = true ∨ d.shock = true ∨ d.freefall = true := by
  rcases ho : m.openEpisode with _ | e
  · right
    by_contra hn
    have : (m.episodeWork now d) = m := by
      simp_all [Motion.episodeWork]
    simp_all
  · exact .inl rfl

/-- A multiplier is 1 to 4 (R118). -/
theorem restartMultiplier_bounds (m : Motion) (now : Clock) :
    1 ≤ m.restartMultiplier now ∧ m.restartMultiplier now ≤ 4 := by
  unfold Motion.restartMultiplier
  omega

/-- A restart of the quiet timer leaves it running, whatever is open (R118). -/
theorem episodesLawful_restart {m : Motion} (h : m.listLawful) (now : Clock) : (m.restartQuiet now).episodesLawful :=
  episodesLawful_iff.mpr ⟨h, fun _ => ⟨_, rfl⟩, restartMultiplier_bounds m now⟩

/-- An arrival judged leaves the class side lawful: what opens an episode restarts the quiet timer (R116, R120). -/
theorem episodesLawful_judge {m : Motion} (h : m.episodesLawful) {d : Detections} (hp : d.peak ≤ 4095) (now : Clock) :
    (m.judge now d).episodesLawful := by
  obtain ⟨hlist, hopen, hmult⟩ := episodesLawful_iff.mp h
  have hwork : ({ m with cls := m.classAfter d }.episodeWork now d).listLawful :=
    listLawful_episodeWork (m := { m with cls := m.classAfter d }) hlist hp now
  rw [judge_eq]
  split
  next => exact episodesLawful_restart hwork now
  next hcause =>
    obtain ⟨es, n, he⟩ := episodeWork_keeps { m with cls := m.classAfter d } now d
    refine episodesLawful_iff.mpr ⟨hwork, fun ho => ?_, ?_⟩
    · rcases openEpisode_episodeWork ho with ho | hf
      · rw [he]
        exact hopen ho
      · exact absurd (by rcases hf with hf | hf <;> simp [restartCause, hf]) hcause
    · rw [he]
      exact hmult

/-! ## Reports and the expiry -/

/-- No law of the sampling side speaks of the episodes. -/
theorem samplingLawful_mapOpen {m : Motion} (h : m.samplingLawful) (f : Episode → Episode) :
    (m.mapOpen f).samplingLawful := by
  obtain ⟨es, he⟩ := mapOpen_keeps m f
  rw [he]
  exact h

theorem mapOpen_openEpisode {m : Motion} {f : Episode → Episode} (h : (m.mapOpen f).openEpisode.isSome = true) :
    m.openEpisode.isSome = true := by
  rcases ho : m.openEpisode with _ | e
  · rw [mapOpen_none ho, ho] at h
    exact h
  · rfl

/-- A report counted in the open episode leaves the class side lawful (R124). -/
theorem episodesLawful_mapOpen {m : Motion} (h : m.episodesLawful) {f : Episode → Episode}
    (hr : ∀ e : Episode, e.inRange → (f e).inRange) (hs : ∀ e, (f e).sequence = e.sequence) :
    (m.mapOpen f).episodesLawful := by
  obtain ⟨hlist, hopen, hmult⟩ := episodesLawful_iff.mp h
  refine episodesLawful_iff.mpr ⟨listLawful_mapOpen hlist hr hs, fun ho => ?_, ?_⟩ <;>
    obtain ⟨es, he⟩ := mapOpen_keeps m f <;> rw [he]
  · exact hopen (mapOpen_openEpisode ho)
  · exact hmult

/-- The open episode closed and the timer QUIET leave the class side lawful (R119, R122). -/
theorem episodesLawful_close {m : Motion} (h : m.episodesLawful) (q : QuietTimer) (v : Clock → Clock) :
    ({ m with quiet := q }.mapOpen fun e => { e with duration := some (v e.start) }).episodesLawful := by
  obtain ⟨hlist, -, hmult⟩ := episodesLawful_iff.mp h
  have hlist' := listLawful_mapOpen (m := { m with quiet := q }) hlist
    (f := fun e => { e with duration := some (v e.start) }) (fun _ h => h) fun _ => rfl
  refine episodesLawful_iff.mpr ⟨hlist', fun ho => ?_, ?_⟩
  · rcases hopen : Motion.openEpisode { m with quiet := q } with _ | e
    · rw [mapOpen_none hopen, hopen] at ho
      cases ho
    · obtain ⟨es, he, hd⟩ := openEpisode_some.mp hopen
      rw [mapOpen_cons he hd, openEpisode_cons rfl] at ho
      cases ho
  · obtain ⟨es, he⟩ := mapOpen_keeps { m with quiet := q } fun e => { e with duration := some (v e.start) }
    rw [he]
    exact hmult

end Sys2Proof.Machine
end

section
/-! SUPPORT. SAMPLE_ARRIVAL and MOTION_SETUP said whole: what an arrival leaves, posts and hands on, and what new
settings do to the measure. -/

namespace Sys2Proof.Machine

/-! ## SAMPLE_ARRIVAL (R88, R91, R103, R114, R115, R125, R132) -/

theorem saturateAxis_eq (v : Half) :
    saturateAxis v = if v.toInt < -2048 then -2048 else if 2047 < v.toInt then 2047 else v.toInt := by
  unfold saturateAxis
  split_ifs <;> omega

/-- The Motion Unit after an arrival, and what the arrival detects: the read is over, the saturated values are measured
and judged. -/
def Motion.arrived (m : Motion) (x y z : Half) (now : Clock) : Motion × Detections :=
  let r := { m with port := .idle }.measure (saturateAxis x) (saturateAxis y) (saturateAxis z)
  (r.1.judge now r.2, r.2)

/-- What changed of class, tilt and quiet timer, in one handoff; nothing when none of them did. -/
def verdictChanges (m j : Motion) (turned : Bool) : List Instr :=
  let woken := m.quiet = .quiet ∧ j.quiet ≠ .quiet
  if j.cls = m.cls ∧ turned = false ∧ ¬ woken then []
  else [.motionVerdictHandoff (if j.cls = m.cls then none else some j.cls) (if turned = true then some j.tilt else none)
    (if woken then some false else none)]

theorem handVerdict_changes (s : State) (m j : Motion) (turned : Bool) :
    s.handVerdict (if j.cls = m.cls then none else some j.cls) (if turned then some j.tilt else none)
        (if m.quiet = .quiet ∧ j.quiet ≠ .quiet then some false else none) =
      s.handOn (verdictChanges m j turned) := by
  rw [handVerdict_eq, verdictChanges]
  congr 1
  by_cases hc : j.cls = m.cls <;> by_cases hq : m.quiet = .quiet ∧ j.quiet ≠ .quiet <;> cases turned <;> simp [hc, hq]

theorem packed_isTilted (t : Tilt) : packed t.isTilted.toNat = if t = .tilted then 1 else 0 := by cases t <;> rfl

/-- An arrival: what it left, its notices, and then the handoff of what changed. -/
theorem takeArrival_reading {s : State} (hs : s.motion.sensor = .running) (hp : s.motion.port = .reading) (x y z : Half) :
    takeArrival x y z s =
      let a := s.motion.arrived x y z s.clock
      (s.setMotion a.1).handOn
        (arrivalNotices a.1 s.clock a.2 s.motion.cls ++
          verdictChanges s.motion a.1 (a.2.tiltEntry || a.2.tiltExit)) := by
  rw [takeArrival, if_pos (by simp [hs, hp]), handVerdict_changes, postArrival_eq, handOn_handOn]
  rfl

theorem takeArrival_not_reading {s : State} (h : s.motion.sensor ≠ .running ∨ s.motion.port ≠ .reading) (x y z : Half) :
    takeArrival x y z s = s := by
  rw [takeArrival, if_neg (by simpa [imp_iff_not_or] using h)]

/-- Settles O43: an arrival is `takeArrival_reading`, its notices and its handoff condition by condition. -/
theorem sampleArrivalsPostAndHandOn : Obligations.SampleArrivalsPostAndHandOn := by
  intro x y z s ho t counts d j number turned woken notices handed
  refine ⟨fun hs hp => ?_, fun h => ?_⟩ <;> refine (event_operating ho _ _).trans (congrArg _ ?_)
  · have hcounts : ∀ v, saturateAxis v = counts v := saturateAxis_eq
    have harrived : s.motion.arrived x y z s.clock = (j, d) := by
      simp only [Motion.arrived, hcounts]
      rfl
    have hnumber : j.openSequence = number := by
      unfold Motion.openSequence number
      cases j.openEpisode <;> rfl
    have hturned : (d.tiltEntry || d.tiltExit) = true ↔ turned := iff_of_eq (Bool.or_eq_true ..)
    rw [takeArrival_reading (s := t) hs hp]
    simp only [t, taken_motion, taken_clock, harrived]
    congr 2
    · simp only [arrivalNotices, hnumber, hturned, packed_isTilted, eq_comm (a := s.motion.cls)]
      rfl
    · simp only [verdictChanges, ← Bool.not_eq_true, hturned]
      rfl
  · exact takeArrival_not_reading (s := t) h x y z

/-! ## MOTION_SETUP (R104 to R106, R113, R128) -/

section
variable {s : State} {t : MotionSettings}

/-- With the window that it finds, MOTION_SETUP stores the settings (R106). -/
theorem motionSetup_sameWindow (h : t.windowExponent = s.motion.settings.windowExponent) :
    s.motionSetup t = s.setMotion { s.motion with settings := t } := by
  simp [State.motionSetup, Motion.withSettings, h]

theorem withSettings_cls (m : Motion) (t : MotionSettings) : (m.withSettings t).cls = m.cls := by
  unfold Motion.withSettings
  split <;> rfl

theorem withSettings_newWindow {m : Motion} (h : t.windowExponent ≠ m.settings.windowExponent) :
    { m.withSettings t with cls := .unprimed : Motion } = m.newWindow t := by
  rw [Motion.withSettings, if_neg h]
  rfl

/-- With another window it begins anew; a class that was held is posted with L 0 and handed on (R104, R113, R114). -/
theorem motionSetup_newWindow (h : t.windowExponent ≠ s.motion.settings.windowExponent) :
    s.motionSetup t =
      if s.motion.cls = .unprimed then s.setMotion (s.motion.newWindow t)
      else (s.setMotion (s.motion.newWindow t)).handOn
        [.noticePost .motion s.clock { b0 := 0, b1 := 0, b2 := 0, b3 := 0 },
         .motionVerdictHandoff (some .unprimed) none none] := by
  have hset : s.motionSetup t = (s.setMotion (s.motion.withSettings t)).unprime := by simp [State.motionSetup, h]
  rw [hset, unprime_eq, setMotion_motion, withSettings_cls, withSettings_newWindow h]
  split
  next hc => rw [← withSettings_newWindow h, ← hc, ← withSettings_cls s.motion t]
  next => rfl

end

theorem exec_motionSetup {s : State} (h : s.canAnswer) (r : RawMotion) :
    exec (.motionSetup r) s =
      let t := MotionSettings.ofRaw r
      .next (((s.taken (.motionSetup r)).acceptedRequest.motionSetup t).sendReply 0xA0 .ok (decide (t.toRaw ≠ r))
        t.toRaw.bytes false) := request_answered h.1 h.2 _ _

/-- Settles O45: the window as it was, or another with `State.unprime` on the class held before. -/
theorem motionSetupActsOnTheWindow : Obligations.MotionSetupActsOnTheWindow := by
  intro r s ha s1 m t done w changed
  have hm : s1.motion = m := by simp [s1, m]
  have hclock : s1.clock = s.clock := by simp [s1]
  have hexec : exec (.motionSetup r) s = done (s1.motionSetup t) := exec_motionSetup ha r
  have hchanged : s1.setMotion (m.newWindow t) = changed := rfl
  refine ⟨fun hw => ?_, fun hw hc => ?_, fun hw hc => ?_⟩
  · rw [hexec, motionSetup_sameWindow (hm ▸ hw), hm]
  · rw [hexec, motionSetup_newWindow (hm ▸ hw), hm, if_pos hc, hchanged]
  · rw [hexec, motionSetup_newWindow (hm ▸ hw), hm, if_neg hc, hchanged, hclock]

end Sys2Proof.Machine
end

section
/-! SUPPORT. Every step keeps the Motion Unit lawful (R93, R96 to R99, R104, R110 to R124, R127): each command as work
that keeps it, past the start-up interval and before. -/

namespace Sys2Proof.Machine

/-! ## Lawful Motion Units -/

/-- Both sides of the Motion Unit are lawful. -/
def Motion.lawful (m : Motion) : Prop := m.samplingLawful ∧ m.episodesLawful

theorem motionLawful_iff {s : State} :
    s.motionLawful ↔ s.motion.lawful ∧ (s.phase ≠ .operating → s.motion = .reset) := and_assoc.symm

theorem reset_motion_lawful : Motion.reset.lawful := ⟨reset_motion_samplingLawful, reset_motion_episodesLawful⟩

/-- Past the start-up interval nothing more is asked of the Motion Unit. -/
theorem motionLawful_operating {s : State} (hp : s.phase = .operating) (h : s.motion.lawful) : s.motionLawful :=
  motionLawful_iff.mpr ⟨h, fun hn => absurd hp hn⟩

/-- At its full-reset values the Motion Unit is lawful in every phase. -/
theorem motionLawful_reset {s : State} (h : s.motion = .reset) : s.motionLawful :=
  motionLawful_iff.mpr ⟨h ▸ reset_motion_lawful, fun _ => h⟩

theorem runLength_of_not_running {m : Motion} (h : m.lawful) (hs : m.sensor ≠ .running) : m.runLength = 0 := by
  obtain ⟨⟨-, -, -, -, -, -, -, -, -, -, hrun, -⟩, -⟩ := h
  exact hrun hs

/-- Sensor, port and timers may change while a sensor that is not RUNNING has no run, and only a RUNNING one reads. -/
theorem lawful_sensorWork {m m' : Motion} (h : m.lawful)
    (he : m' = { m with
      sensor := m'.sensor, port := m'.port, watch := m'.watch, window := m'.window, retry := m'.retry,
      firstSetup := m'.firstSetup, setupEntry := m'.setupEntry })
    (hs : m'.sensor ≠ .running → m.runLength = 0) (hp : m'.port = .reading → m'.sensor = .running) : m'.lawful := by
  rw [he]
  exact ⟨samplingLawful_sensor h.1 hs hp .., h.2⟩

/-- The measure cleared at a loss, with the class UNPRIMED (R93, R113). -/
theorem lawful_cleared {m : Motion} (h : m.lawful) : { m.clearMeasure with cls := .unprimed : Motion }.lawful :=
  ⟨samplingLawful_cleared h.1, h.2⟩

/-- One arrival, measured and judged (R91, R95 to R103, R110 to R125). -/
theorem lawful_arrival {m : Motion} (h : m.lawful) (hrun : m.sensor = .running) {ax ay az : Int}
    (hax : countInRange ax) (hay : countInRange ay) (haz : countInRange az) (now : Clock) :
    ((m.measure ax ay az).1.judge now (m.measure ax ay az).2).lawful := by
  obtain ⟨hsampling, hepisodes⟩ := h
  have hpeak : (m.measure ax ay az).2.peak ≤ 4095 := by
    obtain ⟨-, -, -, -, -, -, -, -, -, -, -, -, hx, hy, hz, -⟩ := hsampling
    rw [measure_peak]
    exact (activityOf_le hx hy hz hax hay haz).2
  exact ⟨samplingLawful_arrival hsampling hrun hax hay haz now,
    episodesLawful_judge (m := (m.measure ax ay az).1) hepisodes hpeak now⟩

/-- A report counted in the open episode (R124). -/
theorem lawful_mapOpen {m : Motion} (h : m.lawful) {f : Episode → Episode}
    (hr : ∀ e : Episode, e.inRange → (f e).inRange) (hs : ∀ e, (f e).sequence = e.sequence) : (m.mapOpen f).lawful :=
  ⟨samplingLawful_mapOpen h.1 f, episodesLawful_mapOpen h.2 hr hs⟩

/-- RUNNING is entered from a sensor without a run, so that its new run and priming are what stood (R90). -/
theorem enterRunning_eq {m : Motion} (h : m.lawful) (hs : m.sensor ≠ .running) (now : Clock) :
    m.enterRunning now =
      { m with
        sensor := .running, port := .reading, watch := .after now Config.watchMs, window := .idle, retry := .idle,
        firstSetup := false } := by
  have hrun := runLength_of_not_running h hs
  obtain ⟨hpriming, hprimed, -⟩ := no_run_unprimed h.1 hrun
  cases m
  simp_all [Motion.enterRunning]

/-- From SETUP or LOST the sensor goes on without a run. -/
theorem lawful_noRun {m m' : Motion} (h : m.lawful) (hm : m.sensor ≠ .running)
    (he : m' = { m with
      sensor := m'.sensor, port := m'.port, watch := m'.watch, window := m'.window, retry := m'.retry,
      firstSetup := m'.firstSetup, setupEntry := m'.setupEntry })
    (hp : m'.port = .reading → m'.sensor = .running) : m'.lawful :=
  lawful_sensorWork h he (fun _ => runLength_of_not_running h hm) hp

/-! ## What motion work leaves in the Motion Unit -/

section
variable (s : State)

@[simp] theorem handVerdict_motion (cls : Option MotionClass) (tilt : Option Tilt) (quiet : Option Bool) :
    (s.handVerdict cls tilt quiet).motion = s.motion := by
  rw [handVerdict_eq, handOn_motion]

theorem unprime_motion : s.unprime.motion = { s.motion with cls := .unprimed } := by
  rw [unprime_eq]
  split
  next h => rw [← h]
  next => rfl

theorem setupFailure_motion :
    s.setupFailure.motion =
      { s.motion with
        sensor := .lost, port := .idle, window := .idle, firstSetup := false,
        retry := .running (later s.motion.setupEntry Config.retryMs) } := by
  simp only [State.setupFailure]
  split <;> rfl

theorem closeEpisode_motion :
    s.closeEpisode.motion = s.motion.mapOpen fun e => { e with duration := some (s.clock - e.start) } := by
  unfold State.closeEpisode
  split
  next h => rw [mapOpen_none h]
  next => rfl

end

/-! ## Work that keeps the Motion Unit lawful -/

/-- From `s` to `t` the phase stands and the Motion Unit stays lawful. -/
structure MotionKept (s t : State) : Prop where
  phase : t.phase = s.phase
  lawful : s.motion.lawful → t.motion.lawful

namespace MotionKept

section
variable {s t u : State}

theorem refl (s : State) : MotionKept s s := ⟨rfl, id⟩

theorem trans (h : MotionKept s t) (h' : MotionKept t u) : MotionKept s u :=
  ⟨h'.phase.trans h.phase, h'.lawful ∘ h.lawful⟩

/-- Work of other blocks. -/
theorem frame (hp : t.phase = s.phase) (hm : t.motion = s.motion) : MotionKept s t := ⟨hp, fun h => hm ▸ h⟩

theorem of_bay (w : BayWork s t) : MotionKept s t := frame w.phase w.motion

theorem of_policy (w : PolicyWork s t) : MotionKept s t := by
  obtain ⟨_, _, rfl⟩ := w
  exact frame rfl rfl

/-- Work of the Motion Unit. -/
theorem of_motion (w : MotionWork s t) (h : s.motion.lawful → t.motion.lawful) : MotionKept s t :=
  ⟨(WorkFrame.of_motion w).2.1, h⟩

theorem setMotion (s : State) {m : Motion} (h : s.motion.lawful → m.lawful) : MotionKept s (s.setMotion m) :=
  ⟨rfl, h⟩

theorem taken (s : State) (c : Instr) : MotionKept s (s.taken c) := frame rfl rfl
theorem setLink (s : State) (l : Link) : MotionKept s (s.setLink l) := frame rfl rfl

end

/-! ## Commands of the Motion Unit -/

section
variable (s : State)

theorem setupFailure (hs : s.motion.sensor ≠ .running) : MotionKept s s.setupFailure :=
  .of_motion (.setupFailure s) fun h => by
    rw [setupFailure_motion]
    exact lawful_noRun h hs rfl (by simp)

theorem takeIdentity (id : Byte) : MotionKept s (takeIdentity id s) := by
  simp only [Machine.takeIdentity]
  split
  next hg =>
    have hs : s.motion.sensor ≠ .running := by simp_all
    split
    next => exact .setMotion s fun h => lawful_noRun h hs rfl (by simp)
    next => exact .setupFailure s hs
  next => exact .refl s

theorem takeWindowExpiry : MotionKept s (takeWindowExpiry s) := by
  simp only [Machine.takeWindowExpiry]
  split
  next hg => exact .setupFailure s (by simp_all)
  next => exact .refl s

theorem takeRetryExpiry : MotionKept s (takeRetryExpiry s) := by
  simp only [Machine.takeRetryExpiry]
  split
  next hg => exact .setMotion s fun h => lawful_noRun h (by simp_all) rfl (by simp [Motion.enterSetup])
  next => exact .refl s

theorem takeDrdy : MotionKept s (takeDrdy s) := by
  simp only [Machine.takeDrdy]
  split
  next hs => exact .setMotion s fun h => lawful_sensorWork h rfl (by simp [hs]) fun _ => hs
  next hs =>
    have running : MotionKept s (s.setMotion (s.motion.enterRunning s.clock)) := .setMotion s fun h => by
      rw [enterRunning_eq h (by simp [hs])]
      exact lawful_noRun h (by simp [hs]) rfl fun _ => rfl
    split
    next => exact .refl s
    next =>
      split
      next => exact running
      next => exact running.trans (.frame rfl rfl)
  next => exact .refl s

theorem takeWatchExpiry : MotionKept s (takeWatchExpiry s) := by
  refine .of_motion (.takeWatchExpiry s) fun h => ?_
  simp only [Machine.takeWatchExpiry]
  split
  next hg =>
    have hp : s.motion.port ≠ .reading := by simp_all
    rw [unprime_motion]
    exact lawful_sensorWork (lawful_cleared h) rfl (fun _ => rfl) fun hr => absurd hr hp
  next => exact h

theorem takeArrival (x y z : Half) : MotionKept s (takeArrival x y z s) := by
  refine .of_motion (.takeArrival x y z s) fun h => ?_
  by_cases hg : s.motion.sensor = .running ∧ s.motion.port = .reading
  · have idle : { s.motion with port := .idle : Motion }.lawful :=
      lawful_sensorWork h rfl (runLength_of_not_running (m := s.motion) h) (by simp)
    rw [takeArrival_reading hg.1 hg.2]
    exact lawful_arrival idle hg.1 (saturateAxis_inRange x) (saturateAxis_inRange y) (saturateAxis_inRange z) s.clock
  · rw [takeArrival_not_reading (not_and_or.mp hg)]
    exact h

theorem takeQuietExpiry : MotionKept s (takeQuietExpiry s) := by
  refine .of_motion (.takeQuietExpiry s) fun h => ?_
  unfold Machine.takeQuietExpiry
  split
  next =>
    rw [handVerdict_motion, closeEpisode_motion]
    exact ⟨samplingLawful_mapOpen (m := { s.motion with quiet := .quiet }) h.1 _,
      episodesLawful_close h.2 .quiet fun start => s.clock - start⟩
  next => exact h

theorem takeQuietRestart : MotionKept s (takeQuietRestart s) :=
  .of_motion (.takeQuietRestart s) fun h => by
    rw [Machine.takeQuietRestart, handVerdict_motion]
    exact ⟨h.1, episodesLawful_restart (episodesLawful_iff.mp h.2).1 _⟩

theorem takeUnloadReport : MotionKept s (takeUnloadReport s) :=
  .setMotion s fun h => lawful_mapOpen h (fun _ ⟨hp, _, hrest⟩ => ⟨hp, Nat.min_le_left .., hrest⟩) fun _ => rfl

theorem takeStrandingReport : MotionKept s (takeStrandingReport s) :=
  .setMotion s fun h => lawful_mapOpen h (fun _ ⟨hp, hu, _, hf⟩ => ⟨hp, hu, Nat.min_le_left .., hf⟩) fun _ => rfl

theorem motionSetup {t : MotionSettings} (ht : t.inRange) : MotionKept s (s.motionSetup t) := by
  refine .of_motion (.motionSetup s t) fun h => ?_
  by_cases hw : t.windowExponent = s.motion.settings.windowExponent
  · rw [motionSetup_sameWindow hw]
    exact ⟨samplingLawful_settings h.1 ht hw, h.2⟩
  · rw [motionSetup_newWindow hw]
    split <;> exact ⟨samplingLawful_newWindow h.1 ht, h.2⟩

end

/-! ## Requests and the line -/

section
variable (s : State)

theorem carryOut (r : Request) : MotionKept s (carryOut r s).2 := by
  cases r with
  | baySetup bay d =>
    simp only [Machine.carryOut, workBaySetup]
    split
    · exact .refl s
    · split
      · exact (of_bay ((BayWork.mapBay ..).trans (.applyAccess ..))).trans (.of_policy (.policyTable ..))
      · exact .refl s
  | bayAim bays target priority =>
    simp only [Machine.carryOut, workBayAim]
    split
    · exact .refl s
    · exact .of_bay (.aimAll ..)
  | bayClear bays =>
    simp only [Machine.carryOut, workBayClear]
    split
    · exact .refl s
    · exact .of_bay (.clearAll ..)
  | bayQuery bay => simp only [Machine.carryOut, workBayQuery]; split <;> exact .refl s
  | bayDescribe bay => simp only [Machine.carryOut, workBayDescribe]; split <;> exact .refl s
  | motionSetup r => exact .motionSetup s (motionSettings_ofRaw_inRange r)
  | powerSetup r =>
    have set : MotionKept s ((s.setArbiter (s.arbiter.withSettings r)).setSupply (s.supply.withSettings r)) :=
      .frame rfl rfl
    exact set.trans (.of_bay (.evaluate _))
  | powerQuery =>
    simp only [Machine.carryOut, workPowerQuery]
    split
    · exact .frame rfl rfl
    · exact .refl s
  | caseSetup r => exact .of_policy (.caseSetup ..)
  | noticeMask mask => exact .frame rfl rfl
  | noticeFetch =>
    simp only [Machine.carryOut, workNoticeFetch]
    split
    · exact .refl s
    · exact .frame rfl rfl
  | faultRead =>
    simp only [Machine.carryOut, workFaultRead]
    split
    · exact .refl s
    · exact .frame rfl rfl
  | ident | restart | motionQuery | trace | episodes | caseQuery | noticeStatus => exact .refl s

theorem dispatch (item : Item) : MotionKept s (s.dispatch item) := by
  cases item with
  | request r => exact ((of_policy (.acceptedRequest s)).trans (.carryOut _ r)).trans (.frame rfl rfl)
  | badSize kind => exact (of_policy (.acceptedRequest s)).trans (.frame rfl rfl)
  | linkError code detail => exact .frame rfl rfl

theorem itemMade (item : Item) : MotionKept s (s.itemMade item) := by
  unfold State.itemMade
  split
  · exact .dispatch s item
  · split <;> exact .frame rfl rfl

theorem receive (c : Byte) : MotionKept s (s.receive c) := by
  have hunts : ∀ item, MotionKept s (s.hunts.itemMade item) := fun item =>
    (setLink s _).trans (.itemMade s.hunts item)
  unfold State.receive
  split <;> split
  · exact .frame rfl rfl
  · exact .refl s
  · exact .frame rfl rfl
  · exact hunts _
  · exact .frame rfl rfl
  · split <;> exact hunts _

theorem takeCharacter (data : Byte) (stopHigh : Bool) : MotionKept s (takeCharacter data stopHigh s) := by
  unfold Machine.takeCharacter
  split
  · exact (setLink s _).trans (.receive _ data)
  · exact .refl s

theorem takeGap : MotionKept s (takeGap s) := by
  unfold Machine.takeGap
  split
  · exact (setLink s _).trans (.itemMade s.hunts _)
  · exact .refl s

theorem takeEndOfReply : MotionKept s (takeEndOfReply s) := by
  unfold Machine.takeEndOfReply
  split
  · exact .refl s
  · refine MotionKept.trans (frame ?_ ?_) (.of_policy (.restartSupervision _)) <;> rfl
  · split
    · exact .frame rfl rfl
    · exact (setLink s _).trans (.dispatch _ _)

/-! ## Records and supervision -/

theorem takeCapture (c : Capture) : MotionKept s (takeCapture c s) := by
  unfold Machine.takeCapture
  split <;> exact .frame rfl rfl

theorem takeLapse : MotionKept s (takeLapse s) := by
  unfold Machine.takeLapse
  split
  · refine MotionKept.trans (frame ?_ ?_) (.of_policy (.reevaluate _)) <;> rfl
  · exact .refl s

end
end MotionKept

/-! ## Reset, time, and every step -/

section
variable {s t : State}

/-- The law of the whole part goes along with work that keeps it past the start-up interval (R183). -/
theorem motionLawful_event {c : Instr} {f : State → State} (h : s.event c f = .next t)
    (hf : MotionKept (s.taken c) (f (s.taken c))) (hs : s.motionLawful) : t.motionLawful := by
  rcases event_next h with ⟨hp, rfl⟩ | ⟨-, rfl⟩
  · exact motionLawful_operating (hf.phase.trans hp) (hf.lawful (motionLawful_iff.mp hs).1)
  · exact hs

theorem motionLawful_takeResetRelease (hs : s.motionLawful) : (takeResetRelease s).motionLawful := by
  unfold takeResetRelease
  split
  · exact motionLawful_reset rfl
  · exact hs
  · exact hs

/-- At the end of the start-up interval the first SETUP is entered, the measure at its full-reset values (R89). -/
theorem motionLawful_takeStartUpEnd (hs : s.motionLawful) : (takeStartUpEnd s).motionLawful := by
  obtain ⟨hlawful, hreset⟩ := motionLawful_iff.mp hs
  unfold takeStartUpEnd
  split
  · exact hs
  next hp =>
    have hm : s.motion = .reset := hreset (by simp [hp])
    split
    · exact motionLawful_operating rfl (lawful_noRun hlawful (by simp [hm, Motion.reset]) rfl (by simp))
    · exact hs
  · exact hs

theorem motionLawful_tick (hs : s.motionLawful) : s.tick.motionLawful := by
  unfold State.tick
  split <;> exact hs

/-- Every command keeps the Motion Unit lawful. -/
theorem motionLawful_exec (hs : s.motionLawful) (c : Instr) (h : exec c s = .next t) : t.motionLawful := by
  cases c with
  | ident | restart | baySetup | bayAim | bayClear | bayQuery | bayDescribe | motionSetup | motionQuery | trace
  | episodes | powerSetup | powerQuery | caseSetup | caseQuery | noticeMask | noticeFetch | noticeStatus | faultRead =>
    exact motionLawful_event h (.itemMade ..) hs
  | characterReception => exact motionLawful_event h (.takeCharacter ..) hs
  | gapError => exact motionLawful_event h (.takeGap _) hs
  | endOfReply => exact motionLawful_event h (.takeEndOfReply _) hs
  | powerOn | brownout | pinReset => cases h; exact motionLawful_reset rfl
  | resetRelease => cases h; exact motionLawful_takeResetRelease (s := s.taken _) hs
  | startUpIntervalEnd => cases h; exact motionLawful_takeStartUpEnd (s := s.taken _) hs
  | unseat => exact motionLawful_event h (.of_bay (.takeUnseat ..)) hs
  | reseat => exact motionLawful_event h (.of_bay (.takeReseat ..)) hs
  | prkRelease => exact motionLawful_event h (.of_bay (.takePrkRelease ..)) hs
  | prkAssertion => exact motionLawful_event h (.of_bay (.takePrkAssertion ..)) hs
  | unloadGuardExpiry => exact motionLawful_event h (.of_bay (.takeGuardExpiry ..)) hs
  | unloadCompletion => exact motionLawful_event h (.of_bay (.takeCompletionTest ..)) hs
  | tachEdge => exact motionLawful_event h (.of_bay (.takeTachEdge ..)) hs
  | rampStep => exact motionLawful_event h (.of_bay (.takeRampStep ..)) hs
  | spinupTimeout => exact motionLawful_event h (.of_bay (.takeSpinupTimeout ..)) hs
  | settleTimeout => exact motionLawful_event h (.of_bay (.takeSettleTimeout ..)) hs
  | silenceTimerExpiry => exact motionLawful_event h (.of_bay (.takeSilence ..)) hs
  | tachQuiet => exact motionLawful_event h (.of_bay (.takeTachQuiet ..)) hs
  | stopTimeout => exact motionLawful_event h (.of_bay (.takeStopTimeout ..)) hs
  | loadTimeout => exact motionLawful_event h (.of_bay (.takeLoadTimeout ..)) hs
  | unloadTimeout => exact motionLawful_event h (.of_bay (.takeUnloadTimeout ..)) hs
  | forcedUnloadOrder => exact motionLawful_event h (.of_bay (.takeForcedUnload ..)) hs
  | stopOrder => exact motionLawful_event h (.of_bay (.takeStopOrder ..)) hs
  | stopOrderLift => exact motionLawful_event h (.of_bay (.takeStopOrderLift ..)) hs
  | loadPermissionReport => exact motionLawful_event h (.of_bay (.takeLoadPermission ..)) hs
  | spinGateReport => exact motionLawful_event h (.of_bay (.takeSpinGate ..)) hs
  | sourceReport => exact motionLawful_event h (.of_bay (.takeSource ..)) hs
  | spacingTimerExpiry => exact motionLawful_event h (.of_bay (.takeSpacingExpiry _)) hs
  | drdyEdge => exact motionLawful_event h (.takeDrdy _) hs
  | identityReadComplete => exact motionLawful_event h (.takeIdentity ..) hs
  | setupWindowExpiry => exact motionLawful_event h (.takeWindowExpiry _) hs
  | retryTimerExpiry => exact motionLawful_event h (.takeRetryExpiry _) hs
  | drdyWatchExpiry => exact motionLawful_event h (.takeWatchExpiry _) hs
  | sampleArrival => exact motionLawful_event h (.takeArrival ..) hs
  | quietTimerExpiry => exact motionLawful_event h (.takeQuietExpiry _) hs
  | quietRestartRequest => exact motionLawful_event h (.takeQuietRestart _) hs
  | unloadReport => exact motionLawful_event h (.takeUnloadReport _) hs
  | strandingReport => exact motionLawful_event h (.takeStrandingReport _) hs
  | motionVerdictHandoff => exact motionLawful_event h (.of_policy (.takeVerdict ..)) hs
  | supplyStateReport => exact motionLawful_event h (.of_policy (.takeSupplyState ..)) hs
  | caseInputAssertion => exact motionLawful_event h (.of_policy (.takeAssertion ..)) hs
  | caseInputRelease => exact motionLawful_event h (.of_policy (.takeRelease ..)) hs
  | supervisionLapse => exact motionLawful_event h (.takeLapse _) hs
  | supplySample => exact motionLawful_event h (.frame rfl rfl) hs
  | faultCapture => exact motionLawful_event h (.takeCapture ..) hs
  | noticePost => exact motionLawful_event h (.frame rfl rfl) hs
  | pwmPeriodBoundary => exact motionLawful_event h (.of_bay (.takePwmBoundary ..)) hs

end

/-- Settles O47: a step runs a command, which keeps the law, or is one millisecond, which leaves the Motion Unit. -/
theorem stepsKeepTheMotionLawful : Obligations.StepsKeepTheMotionLawful := by
  intro s t hs h
  unfold step at h
  split at h
  next c rest _ => exact motionLawful_exec (s := { s with pending := rest }) hs c h
  next =>
    split at h
    next => exact motionLawful_exec hs _ h
    next => cases h; exact motionLawful_tick hs

end Sys2Proof.Machine
end

section
/-! SUPPORT. MOTION_QUERY, TRACE and EPISODES: their records byte by byte, and the fields that they bring into range. -/

namespace Sys2Proof.Machine

/-! ## MOTION_QUERY (R129, R194) -/

theorem sensorCode_lt (st : SensorState) : sensorCode st < 4 := by cases st <;> decide

theorem classCode_lt (c : MotionClass) : classCode c < 4 := by cases c <;> decide

theorem packed_bit {n i : Nat} {v : Bool} (hi : i < 8) (h : n / 2 ^ i % 2 = v.toNat) : (packed n).getLsbD i = v := by
  rw [packed, BitVec.getLsbD_ofNat, Nat.testBit_eq_decide_div_mod_eq, h, decide_eq_true hi]
  cases v <;> rfl

theorem packed_field (n start len : Nat) :
    ((packed n).extractLsb' start len).toNat = n % 256 / 2 ^ start % 2 ^ len := by
  rw [BitVec.extractLsb'_toNat, packed, BitVec.toNat_ofNat, Nat.shiftRight_eq_div_pow]

/-- Two codes of two bits and four flags in one byte. -/
theorem packed_codes_flags {a c : Nat} (ha : a < 4) (hc : c < 4) (p t q o : Bool) :
    let bits := packed (a + c * 4 + p.toNat * 16 + t.toNat * 32 + q.toNat * 64 + o.toNat * 128)
    (bits.extractLsb' 0 2).toNat = a ∧ (bits.extractLsb' 2 2).toNat = c ∧ bits.getLsbD 4 = p ∧ bits.getLsbD 5 = t ∧
      bits.getLsbD 6 = q ∧ bits.getLsbD 7 = o := by
  have := Bool.toNat_le p
  have := Bool.toNat_le t
  have := Bool.toNat_le q
  have := Bool.toNat_le o
  refine ⟨?_, ?_, packed_bit (by decide) ?_, packed_bit (by decide) ?_, packed_bit (by decide) ?_,
    packed_bit (by decide) ?_⟩
  · rw [packed_field]; omega
  · rw [packed_field]; omega
  all_goals omega

/-- The first byte of the MOTION_QUERY record (R194). -/
def Motion.statusByte (m : Motion) : Byte :=
  packed (sensorCode m.sensor + classCode m.cls * 4 + m.primed.toNat * 16 + m.tilt.isTilted.toNat * 32 +
    (decide (m.quiet = .quiet)).toNat * 64 + m.openEpisode.isSome.toNat * 128)

theorem statusByte_bits (m : Motion) :
    let bits := m.statusByte
    (bits.extractLsb' 0 2).toNat = sensorCode m.sensor ∧ (bits.extractLsb' 2 2).toNat = classCode m.cls ∧
    (bits.getLsbD 4 = true ↔ m.primed = true) ∧ (bits.getLsbD 5 = true ↔ m.tilt = .tilted) ∧
    (bits.getLsbD 6 = true ↔ m.quiet = .quiet) ∧ (bits.getLsbD 7 = true ↔ m.openEpisode ≠ none) := by
  obtain ⟨hs, hc, h4, h5, h6, h7⟩ := packed_codes_flags (sensorCode_lt m.sensor) (classCode_lt m.cls) m.primed
    m.tilt.isTilted (decide (m.quiet = .quiet)) m.openEpisode.isSome
  refine ⟨hs, hc, iff_of_eq (congrArg (· = true) h4), ?_, ?_, ?_⟩
  · exact (iff_of_eq (congrArg (· = true) h5)).trans (by simp [isTilted_eq])
  · exact (iff_of_eq (congrArg (· = true) h6)).trans decide_eq_true_iff
  · exact (iff_of_eq (congrArg (· = true) h7)).trans Option.isSome_iff_ne_none

theorem exec_motionQuery {s : State} (h : s.canAnswer) :
    exec .motionQuery s =
      .next ((s.taken .motionQuery).acceptedRequest.sendReply 0xA1 .ok false
        (s.taken .motionQuery).acceptedRequest.motionRecord false) := request_answered h.1 h.2 _ _

/-- The report of an accepted request changes nothing that the MOTION_QUERY record shows. -/
theorem motionRecord_accepted (s : State) (c : Instr) : (s.taken c).acceptedRequest.motionRecord = s.motionRecord := by
  simp only [State.motionRecord, accepted_motion, accepted_clock, taken_motion, taken_clock]

/-! ## TRACE (R107, R194) -/

/-- The 56 bits of a TRACE entry (R194). -/
def traceWord (offset : Nat) (e : Sample) : BitVec 56 :=
  BitVec.ofNat 6 offset ++ BitVec.ofNat 14 e.activity ++ BitVec.ofInt 12 e.z ++ BitVec.ofInt 12 e.y ++ BitVec.ofInt 12 e.x

theorem traceEntry_eq (offset : Nat) (e : Sample) :
    traceEntry offset e = le16 e.number ++ (List.range 7).map fun j => (traceWord offset e).extractLsb' (8 * j) 8 := rfl

theorem append_fields (a : BitVec 6) (b : BitVec 14) (c d e : BitVec 12) :
    let v := a ++ b ++ c ++ d ++ e
    v.extractLsb' 0 12 = e ∧ v.extractLsb' 12 12 = d ∧ v.extractLsb' 24 12 = c ∧ v.extractLsb' 36 14 = b ∧
      v.extractLsb' 50 6 = a := by
  refine ⟨BitVec.extractLsb'_append_eq_right, ?_, ?_, ?_, ?_⟩
  · exact (BitVec.extractLsb'_append_eq_of_le (by decide)).trans BitVec.extractLsb'_append_eq_right
  · exact (BitVec.extractLsb'_append_eq_of_le (by decide)).trans
      ((BitVec.extractLsb'_append_eq_of_le (by decide)).trans BitVec.extractLsb'_append_eq_right)
  · exact (BitVec.extractLsb'_append_eq_of_le (by decide)).trans
      ((BitVec.extractLsb'_append_eq_of_le (by decide)).trans
        ((BitVec.extractLsb'_append_eq_of_le (by decide)).trans BitVec.extractLsb'_append_eq_right))
  · exact (BitVec.extractLsb'_append_eq_of_le (by decide)).trans
      ((BitVec.extractLsb'_append_eq_of_le (by decide)).trans
        ((BitVec.extractLsb'_append_eq_of_le (by decide)).trans BitVec.extractLsb'_append_eq_left))

theorem traceWord_fields {offset : Nat} (h : offset < 64) (e : Sample) :
    let v := traceWord offset e
    v.extractLsb' 0 12 = BitVec.ofInt 12 e.x ∧ v.extractLsb' 12 12 = BitVec.ofInt 12 e.y ∧
    v.extractLsb' 24 12 = BitVec.ofInt 12 e.z ∧ v.extractLsb' 36 14 = BitVec.ofNat 14 e.activity ∧
    (v.extractLsb' 50 6).toNat = offset := by
  obtain ⟨hx, hy, hz, ha, ho⟩ := append_fields (BitVec.ofNat 6 offset) (BitVec.ofNat 14 e.activity)
    (BitVec.ofInt 12 e.z) (BitVec.ofInt 12 e.y) (BitVec.ofInt 12 e.x)
  refine ⟨hx, hy, hz, ha, (congrArg BitVec.toNat ho).trans ?_⟩
  rw [BitVec.toNat_ofNat, Nat.mod_eq_of_lt h]

/-- With the ring not empty every offset of TRACE names an entry. -/
theorem traceAt_some {ring : List Sample} {offset : Nat} (h : offset < ring.length) :
    ∃ e, ring[offset]? = some e ∧ traceAt ring offset = traceEntry offset e :=
  ⟨ring[offset], List.getElem?_eq_getElem h, by simp [traceAt, h]⟩

/-- Some change brought a field of TRACE into range when a field as used is not the field as written, or the count is
0 (R107). -/
theorem traceChanged_eq {filled b n t : Nat} {back count stride : Byte}
    (h : traceFields filled back count stride = (b, n, t)) :
    traceChanged filled back count stride =
      decide (b ≠ back.toNat ∨ n ≠ count.toNat ∨ t ≠ stride.toNat ∨ count = 0) := by
  rw [traceChanged, h, ← Bool.decide_or, decide_eq_decide, ne_eq, Prod.mk.injEq, Prod.mk.injEq]
  tauto

theorem exec_trace {s : State} (ha : s.canAnswer) {back count stride : Byte} {b n t : Nat}
    (h : traceFields s.motion.ring.length back count stride = (b, n, t)) :
    exec (.trace back count stride) s =
      .next ((s.taken (.trace back count stride)).acceptedRequest.sendReply 0xA2 .ok
        (decide (b ≠ back.toNat ∨ n ≠ count.toNat ∨ t ≠ stride.toNat ∨ count = 0))
        ([BitVec.ofNat 8 s.motion.ring.length] ++ le16 (newestNumber s.motion.ring) ++
          [BitVec.ofNat 8 b, packed (n + t * 16)] ++
          ((traceOffsets s.motion.ring.length b n t).map (traceAt s.motion.ring)).flatten) false) := by
  refine (request_answered ha.1 ha.2 _ _).trans ?_
  rw [dispatch_request]
  simp only [carryOut, workTrace, accepted_motion, taken_motion, traceChanged_eq h, h]
  rfl

/-! ## EPISODES (R126, R194) -/

/-- One EPISODES record, its flags as parts of the field that holds the peak (R194). -/
theorem episodeRecord_eq (e : Episode) :
    episodeRecord e =
      le16 e.sequence ++ le32 e.start ++
        le16 (BitVec.ofNat 16 (e.peak + (if e.shock = true then 4096 else 0) +
          (if e.freefall = true then 8192 else 0) + if e.duration = none then 16384 else 0)) ++
        le32 (match e.duration with | some d => d | none => 0) ++
        [BitVec.ofNat 8 e.unloaded, BitVec.ofNat 8 e.stranded] := by
  simp only [episodeRecord, toNat_mul_eq_ite, Option.isNone_iff_eq_none]
  cases e.duration <;> rfl

theorem episodesChanged_eq {held f n : Nat} {first count : Byte} (h : episodeFields held first count = (f, n)) :
    episodesChanged held first count = decide (f ≠ first.toNat ∨ n ≠ count.toNat ∨ count = 0) := by
  rw [episodesChanged, h, ← Bool.decide_or, decide_eq_decide, ne_eq, Prod.mk.injEq]
  tauto

theorem exec_episodes {s : State} (ha : s.canAnswer) {first count : Byte} {f n : Nat}
    (h : episodeFields s.motion.episodes.length first count = (f, n)) :
    exec (.episodes first count) s =
      .next ((s.taken (.episodes first count)).acceptedRequest.sendReply 0xA3 .ok
        (decide (f ≠ first.toNat ∨ n ≠ count.toNat ∨ count = 0))
        ([packed (s.motion.episodes.length + f * 16)] ++ le16 s.motion.sequence ++
          (((s.motion.episodes.drop f).take n).map episodeRecord).flatten) false) := by
  refine (request_answered ha.1 ha.2 _ _).trans ?_
  rw [dispatch_request]
  simp only [carryOut, workEpisodes, accepted_motion, taken_motion, episodesChanged_eq h, h]
  rfl

/-- Settles O59: each record from the model's own, the status byte by `statusByte_bits`, the fields brought into range
by `clamp_eq`, and the 56 bits of a TRACE entry by `traceWord_fields`. -/
theorem motionRecordsAreReported : Obligations.MotionRecordsAreReported := by
  refine ⟨⟨fun st => by cases st <;> rfl, fun c => by cases c <;> rfl⟩, fun s ha => ?_⟩
  intro m g put
  have hput : ∀ {lo hi x : Nat}, lo ≤ hi → clamp lo hi x = put lo hi x := fun h => clamp_eq _ _ _ h
  refine ⟨⟨m.statusByte, ?_, statusByte_bits m⟩, fun back count stride hring => ?_, fun first count => ?_⟩
  · rw [exec_motionQuery ha, motionRecord_accepted]
    have hquiet : quietRemaining s.clock m.quiet = match m.quiet with
        | .running e => if reached s.clock e = true then 0 else BitVec.ofNat 16 (e - s.clock).toNat
        | .quiet => 65535
        | .runningUnset => 65535 := by
      rcases m.quiet with _ | _ | e
      · rfl
      · rfl
      · simp only [quietRemaining, remaining]
        split <;> rfl
    have hopen : m.openSequence = match m.openEpisode with | some e => e.sequence | none => 0 := by
      unfold Motion.openSequence
      cases m.openEpisode <;> rfl
    rw [State.motionRecord, hquiet, hopen]
    rfl
  · intro f b n t
    have hb : min (min back.toNat 63) (f - 1) = b := by
      simp only [b, put]
      split_ifs <;> omega
    have hn : min (clamp 1 6 count.toNat) f = n := by
      rw [hput (by decide), min_comm, min_def_lt]
    have hfields : traceFields f back count stride = (b, n, t) := by rw [traceFields, hb, hn, hput (by decide)]
    have hnewest : newestNumber m.ring = match m.ring with | e :: _ => e.number | [] => 0 := by
      cases m.ring <;> rfl
    refine ⟨(traceOffsets f b n t).map (traceAt m.ring), ?_, by simp [traceOffsets], fun i hi => ?_⟩
    · rw [exec_trace ha hfields, hnewest, Nat.mul_comm t 16]
      rfl
    · have hf : (b + i * t) % f < f := Nat.mod_lt _ (by omega)
      obtain ⟨e, he, hentry⟩ := traceAt_some hf
      refine ⟨e, traceWord ((b + i * t) % f) e, he, ?_, traceWord_fields (by omega) e⟩
      rw [List.getElem?_map, traceOffsets, List.getElem?_map, List.getElem?_range hi, ← traceEntry_eq, ← hentry]
      rfl
  · intro h f n
    have hf : min (min first.toNat 7) (h - 1) = f := by
      simp only [f, put]
      split_ifs <;> omega
    have hn : min (clamp 1 4 count.toNat) (h - f) = n := by
      rw [hput (by decide), min_comm, min_def_lt]
    have hfields : episodeFields h first count = (f, n) := by rw [episodeFields, hf, hn]
    rw [exec_episodes ha hfields, Nat.mul_comm f 16, funext episodeRecord_eq]
    rfl

end Sys2Proof.Machine
end

section
/-! SUPPORT. MOTION_SETUP's record brought into range and order, and the judging of an arrival: the class by its cases,
the episode work by the head of the list, and the causes of a restart of the quiet timer. -/

namespace Sys2Proof.Machine

/-! ## Motion settings (R106, R127, R128) -/

/-- The hysteresis is set first, by ROLL_ON as written (R127, step 1). -/
theorem orderThresholds_hysteresis (roll rough hyst : Nat) :
    (orderThresholds roll rough hyst).2.2 = if hyst < roll then hyst else roll - 1 := by
  simp only [orderThresholds]
  split_ifs <;> rfl

/-- ROLL_ON and ROUGH_ON follow from the hysteresis `k` that is stored: they stand, ROUGH_ON is raised, or both give
way to the largest ROUGH_ON (R127, steps 2 and 3). -/
theorem orderThresholds_levels {roll rough hyst k : Nat} (hk : (orderThresholds roll rough hyst).2.2 = k) :
    (roll + k + 1 ≤ rough → orderThresholds roll rough hyst = (roll, rough, k)) ∧
    (rough < roll + k + 1 → roll + k + 1 ≤ 4095 → orderThresholds roll rough hyst = (roll, roll + k + 1, k)) ∧
    (rough < roll + k + 1 → 4095 < roll + k + 1 → orderThresholds roll rough hyst = (4094 - k, 4095, k)) := by
  rw [orderThresholds_hysteresis] at hk
  simp only [orderThresholds, hk]
  refine ⟨fun stands => ?_, fun raised fits => ?_, fun raised exceeds => ?_⟩
  · rw [if_neg (by omega)]
  · rw [if_pos raised, if_neg (by omega)]
  · rw [if_pos raised, if_pos exceeds]

/-- Thresholds in order stand. -/
theorem orderThresholds_of_inOrder {roll rough hyst : Nat} (hhyst : hyst < roll) (hrough : roll + hyst < rough) :
    orderThresholds roll rough hyst = (roll, rough, hyst) :=
  (orderThresholds_levels ((orderThresholds_hysteresis ..).trans (if_pos hhyst))).1 hrough

/-- Settings in range and order survive their record (R128). -/
theorem motionSettings_ofRaw_toRaw {t : MotionSettings} (h : t.inRange) : MotionSettings.ofRaw t.toRaw = t := by
  obtain ⟨hshift, hwindow, hshock, hfall, hcount, htilt, hroll, ⟨horder, hrough⟩, ⟨hhyst, hbelow⟩, hbase, hspan⟩ := h
  have hlimit : (BitVec.ofNat 8 t.tiltLimit).toNat = t.tiltLimit := by
    rw [BitVec.toNat_ofNat, Nat.mod_eq_of_lt (by omega)]
  simp only [MotionSettings.ofRaw, MotionSettings.toRaw, hlimit, clamp_ofNat hshift (w := 8) (by decide),
    clamp_ofNat hwindow (w := 8) (by decide), clamp_ofNat hshock (w := 8) (by decide),
    clamp_ofNat hfall (w := 8) (by decide), clamp_ofNat hcount (w := 8) (by decide),
    clamp_ofNat hroll (w := 16) (by decide), clamp_ofNat ⟨by omega, hrough⟩ (lo := 1) (w := 16) (by decide),
    clamp_ofNat ⟨Nat.zero_le _, hhyst⟩ (w := 8) (by decide), clamp_ofNat hbase (w := 8) (by decide),
    clamp_ofNat hspan (w := 8) (by decide), orderThresholds_of_inOrder hbelow horder]

/-- Settles O46: each field by `clamp_eq`, the thresholds by `orderThresholds_hysteresis` and
`orderThresholds_levels`, and the way back by `motionSettings_ofRaw_toRaw`. -/
theorem motionSettingsArePutInOrder : Obligations.MotionSettingsArePutInOrder := by
  refine ⟨fun r => ?_, fun t => motionSettings_ofRaw_toRaw⟩
  intro t put roll rough hyst
  have hput : ∀ {lo hi : Nat} (x : Nat), lo ≤ hi → clamp lo hi x = put lo hi x := fun x h => clamp_eq _ _ x h
  have hroll : clamp 1 4095 r.rollOn.toNat = roll := hput _ (by decide)
  have hrough : clamp 1 4095 r.roughOn.toNat = rough := hput _ (by decide)
  have hstored : (orderThresholds roll rough (put 0 63 r.hysteresis.toNat)).2.2 = hyst := orderThresholds_hysteresis ..
  have hle : rough ≤ 4095 := hrough ▸ clamp_le (by decide)
  have horder : (t.rollOn, t.roughOn, t.hysteresis) = orderThresholds roll rough (put 0 63 r.hysteresis.toNat) := by
    rw [← hroll, ← hrough, ← hput _ (by decide)]
    rfl
  have hlevels : ∀ {x y : Nat}, orderThresholds roll rough (put 0 63 r.hysteresis.toNat) = (x, y, hyst) →
      t.rollOn = x ∧ t.roughOn = y := fun h =>
    have hxy := horder.trans h
    ⟨congrArg (·.1) hxy, congrArg (·.2.1) hxy⟩
  obtain ⟨stand, raise, giveWay⟩ := orderThresholds_levels hstored
  refine ⟨motionSettings_ofRaw_inRange r, hput _ ?_, hput _ ?_, hput _ ?_, hput _ ?_, hput _ ?_, rfl, hput _ ?_,
    hput _ ?_, (congrArg (·.2.2) horder).trans hstored, fun h => hlevels (stand h),
    fun h hfits => hlevels (raise h hfits), fun h => hlevels (giveWay (by omega) h)⟩
  all_goals decide

/-! ## The class after an arrival (R110 to R112) -/

section
variable {m : Motion} {d : Detections}

/-- A shock or a freefall makes the class ROUGH (R112). -/
theorem classAfter_of_found (hp : m.primed = true) (hf : d.shock = true ∨ d.freefall = true) :
    m.classAfter d = .rough := by
  rcases hf with hf | hf <;> simp [Motion.classAfter, hp, hf]

/-- The arrival that ends the priming takes the class from L alone (R111). -/
theorem classAfter_of_endOfPriming (hp : m.primed = true) (hf : ¬ (d.shock = true ∨ d.freefall = true))
    (he : d.endOfPriming = true) : m.classAfter d = m.settings.classOf m.level := by
  simp_all [Motion.classAfter]

/-- Every later arrival takes the class from L and the class before (R110). -/
theorem classAfter_of_level (hp : m.primed = true) (hf : ¬ (d.shock = true ∨ d.freefall = true))
    (he : d.endOfPriming = false) : m.classAfter d = m.settings.classFrom m.cls m.level := by
  simp_all [Motion.classAfter]

end

/-! ## The episode work (R120, R121, R123) -/

section
variable {m : Motion} {d : Detections} (now : Clock)

/-- The open episode is extended and its peak raised. -/
theorem episodeWork_open {e : Episode} {es : List Episode} (h : m.episodes = e :: es) (hd : e.duration = none) :
    m.episodeWork now d =
      { m with episodes :=
          { e with shock := e.shock || d.shock, freefall := e.freefall || d.freefall, peak := max e.peak d.peak } ::
            es } := by
  rw [Motion.episodeWork, openEpisode_some.mpr ⟨es, h, hd⟩]
  exact mapOpen_cons h hd _

/-- With no episode open a shock or a freefall opens one. -/
theorem episodeWork_found (h : m.openEpisode = none) (hf : d.shock = true ∨ d.freefall = true) :
    m.episodeWork now d = m.openNew now d := by
  rw [Motion.episodeWork, h]
  exact if_pos (by simpa using hf)

/-- With no episode open and nothing detected there is no episode work. -/
theorem episodeWork_nothing (h : m.openEpisode = none) (hf : ¬ (d.shock = true ∨ d.freefall = true)) :
    m.episodeWork now d = m := by
  rw [Motion.episodeWork, h]
  exact if_neg (by simpa using hf)

end

/-! ## The quiet timer (R116, R118) -/

/-- The class rises of 6.1. -/
theorem classRises_iff {before after : MotionClass} :
    classRises before after = true ↔
      (before = .unprimed ∧ after ≠ .unprimed) ∨ (before = .still ∧ (after = .rolling ∨ after = .rough)) ∨
        (before = .rolling ∧ after = .rough) := by
  cases before <;> cases after <;> decide

/-- The causes of R116. -/
theorem restartCause_iff {before after : MotionClass} {d : Detections} {tilt : Tilt} :
    restartCause before after d tilt = true ↔
      classRises before after = true ∨ (d.shock = true ∨ d.freefall = true) ∨ d.tiltEntry = true ∨ tilt = .tilted ∨
        after = .rough := by
  have htilt : tilt.isTilted = true ↔ tilt = .tilted := by cases tilt <;> decide
  simp only [restartCause, Bool.or_eq_true, decide_eq_true_eq, htilt, or_assoc]

section
variable {m : Motion} {now : Clock} {d : Detections}

/-- With a cause the quiet timer restarts, the multiplier taken from the list that the episode work left (R118). -/
theorem judge_restarts (h : restartCause m.cls (m.classAfter d) d m.tilt = true) :
    (m.judge now d).multiplier = (m.judge now d).restartMultiplier now ∧
      (m.judge now d).quiet =
        .running (later now (m.settings.quietBase * 100 * (m.judge now d).multiplier)) := by
  obtain ⟨_, _, hwork⟩ := episodeWork_keeps { m with cls := m.classAfter d } now d
  rw [judge_eq, if_pos h, hwork]
  exact ⟨rfl, rfl⟩

/-- Without a cause the quiet timer and its multiplier stand. -/
theorem judge_no_restart (h : ¬ restartCause m.cls (m.classAfter d) d m.tilt = true) :
    (m.judge now d).multiplier = m.multiplier ∧ (m.judge now d).quiet = m.quiet := by
  obtain ⟨_, _, hwork⟩ := episodeWork_keeps { m with cls := m.classAfter d } now d
  rw [judge_eq, if_neg h, hwork]
  exact ⟨rfl, rfl⟩

/-- The multiplier of a restart after the judging, by the settings that the arrival found. -/
theorem judge_restartMultiplier :
    (m.judge now d).restartMultiplier now =
      min 4 (1 + ((m.judge now d).episodes.filter
        fun e => decide (since now e.start ≤ m.settings.escalationSpan * 1000)).length) := by
  obtain ⟨_, _, _, _, _, hj⟩ := judge_keeps m now d
  rw [hj]
  rfl

end

/-- Settles O42: the class by the lemmas on `classAfter`, the episodes by those on `episodeWork`, and the quiet timer
by `restartCause_iff`. -/
theorem arrivalsJudgeTheMotion : Obligations.ArrivalsJudgeTheMotion := by
  intro m now d j t found alone settles rises recent cause
  obtain ⟨hepisodes, hsequence⟩ : j.episodes = (m.episodeWork now d).episodes ∧
    j.sequence = (m.episodeWork now d).sequence := judge_episodes m now d
  have hcls : j.cls = m.classAfter d := judge_cls m now d
  have hcause : restartCause m.cls (m.classAfter d) d m.tilt = true ↔ cause := by
    rw [restartCause_iff, classRises_iff, ← hcls]
  refine ⟨fun hp => ?_, fun hp hf => ?_, fun hp hf he => ?_, fun hp hf he => ?_, fun e es h hd => ?_, fun h hf => ?_,
    fun h hf => ?_, fun h => ?_, fun h => judge_no_restart (hcause.not.mpr h), ?_⟩
  · rw [hcls, classAfter_of_not_primed hp]
  · rw [hcls, classAfter_of_found hp hf]
  · rw [hcls, classAfter_of_endOfPriming hp hf he]
    rfl
  · rw [hcls, classAfter_of_level hp hf he]
    refine ⟨fun h => ?_, fun h => ?_, fun h => ?_⟩ <;> rw [h] <;> rfl
  · rw [hepisodes, hsequence, episodeWork_open now h hd]
    exact ⟨rfl, rfl⟩
  · rw [hepisodes, hsequence, episodeWork_nothing now h hf]
    exact ⟨rfl, rfl⟩
  · rw [hepisodes, hsequence, episodeWork_found now h hf]
    exact ⟨rfl, rfl⟩
  · obtain ⟨hmultiplier, hquiet⟩ := judge_restarts (now := now) (hcause.mpr h)
    exact ⟨hmultiplier.trans judge_restartMultiplier, hquiet⟩
  · obtain ⟨_, _, _, _, _, hj⟩ := judge_keeps m now d
    simp only [j, hj]

end Sys2Proof.Machine
end

section
/-! SUPPORT. The descriptors of the bays: no event of a bay or of the arbiter, no aim and no clear changes one. -/

namespace Sys2Proof.Machine

/-! ## Changes of one record -/

section
variable (x : Bay) (now : Clock)

@[simp] theorem enterSettling_desc : (x.enterSettling now).desc = x.desc := rfl
@[simp] theorem enterSpinningProven_desc : (x.enterSpinningProven now).desc = x.desc := rfl
@[simp] theorem enterSpinningUnloaded_desc : (x.enterSpinningUnloaded now).desc = x.desc := rfl
@[simp] theorem enterFlying_desc : (x.enterFlying now).desc = x.desc := rfl
@[simp] theorem enterFaulted_desc (reason : BayReason) : (x.enterFaulted reason now).desc = x.desc := rfl
@[simp] theorem enterVacant_desc : (x.enterVacant now).desc = x.desc := rfl
@[simp] theorem edgeAccepted_desc (edge : EdgeTime) : (x.edgeAccepted edge).desc = x.desc := rfl
@[simp] theorem withOffBand_desc (period : Nat) : (x.withOffBand period).desc = x.desc := rfl
@[simp] theorem withMark_desc (reason : BayReason) : (x.withMark reason).desc = x.desc := by rw [withMark_eq]

end

/-! ## Operations on the state -/

section
variable (s : State) (b i : BayId)

theorem desc_of_standing {x y : Bay} (h : x.standing = y.standing) : x.desc = y.desc := congrArg (·.2.2) h

@[simp] theorem mapBay_desc (f : Bay → Bay) :
    ((s.mapBay b f).bay i).desc = if i = b then (f (s.bay b)).desc else (s.bay i).desc := by
  rw [mapBay_bay, apply_ite Bay.desc]

/-- A changed bay that has the descriptor it had counts as unchanged. -/
@[simp] theorem bay_desc_ite : (if i = b then (s.bay b).desc else (s.bay i).desc) = (s.bay i).desc :=
  ite_eq_right_iff.mpr fun h => h ▸ rfl

@[simp] theorem evaluate_desc : (s.evaluate.bay i).desc = (s.bay i).desc := desc_of_standing (evaluate_standing ..)

@[simp] theorem reportDraw_desc (charge : Nat) : ((s.reportDraw b charge).bay i).desc = (s.bay i).desc :=
  desc_of_standing (reportDraw_standing ..)

@[simp] theorem postBay_bay : (s.postBay b).bay i = s.bay i := rfl

@[simp] theorem unqueue_bay : (s.unqueue b).bay i = s.bay i := rfl

@[simp] theorem toStopping_desc : ((s.toStopping b).bay i).desc = (s.bay i).desc :=
  desc_of_standing (toStopping_standing ..)

@[simp] theorem toUnloading_desc : ((s.toUnloading b).bay i).desc = (s.bay i).desc :=
  desc_of_standing (toUnloading_standing ..)

@[simp] theorem toStopped_desc : ((s.toStopped b).bay i).desc = (s.bay i).desc :=
  desc_of_standing (toStopped_standing ..)

@[simp] theorem joinQueue_desc : ((s.joinQueue b).bay i).desc = (s.bay i).desc :=
  desc_of_standing (joinQueue_standing ..)

@[simp] theorem loadTest_desc : ((s.loadTest b).bay i).desc = (s.bay i).desc :=
  desc_of_standing (loadTest_standing ..)

@[simp] theorem actOnAim_desc (target : Intent) : ((s.actOnAim b target).bay i).desc = (s.bay i).desc :=
  desc_of_standing (actOnAim_standing ..)

@[simp] theorem priorityChanged_desc (old new : Fin 4) : ((s.priorityChanged b old new).bay i).desc = (s.bay i).desc :=
  desc_of_standing (priorityChanged_standing ..)

@[simp] theorem toFaulted_desc (reason : BayReason) (found : BayState) :
    ((s.toFaulted b reason found).bay i).desc = (s.bay i).desc := by
  simp [State.toFaulted]

@[simp] theorem afterSpinning_desc : ((s.afterSpinning b).bay i).desc = (s.bay i).desc := by
  unfold State.afterSpinning
  split <;> simp

@[simp] theorem toSpinningProven_desc : ((s.toSpinningProven b).bay i).desc = (s.bay i).desc := by
  simp [State.toSpinningProven]

@[simp] theorem toSpinningUnloaded_desc : ((s.toSpinningUnloaded b).bay i).desc = (s.bay i).desc := by
  simp [State.toSpinningUnloaded]

@[simp] theorem queueIfWanted_desc : ((s.queueIfWanted b).bay i).desc = (s.bay i).desc := by
  simp only [State.queueIfWanted]
  split <;> simp

@[simp] theorem speedLost_desc : ((s.speedLost b).bay i).desc = (s.bay i).desc := by
  simp only [State.speedLost]
  split <;> simp

@[simp] theorem testPeriod_desc (period : Nat) : ((s.testPeriod b period).bay i).desc = (s.bay i).desc := by
  simp only [State.testPeriod]
  repeat' split
  all_goals simp

/-! ## Events of a bay and of the arbiter -/

theorem takeUnseat_desc : ((takeUnseat b s).bay i).desc = (s.bay i).desc := by
  simp only [takeUnseat]
  repeat' split
  all_goals simp

theorem takeReseat_desc : ((takeReseat b s).bay i).desc = (s.bay i).desc := by
  simp only [takeReseat]
  split <;> simp

theorem takePrkRelease_desc : ((takePrkRelease b s).bay i).desc = (s.bay i).desc := by
  simp only [takePrkRelease]
  repeat' split
  all_goals simp

theorem takePrkAssertion_desc : ((takePrkAssertion b s).bay i).desc = (s.bay i).desc := by
  simp only [takePrkAssertion]
  repeat' split
  all_goals simp

theorem takeGuardExpiry_desc : ((takeGuardExpiry b s).bay i).desc = (s.bay i).desc := by
  simp only [takeGuardExpiry]
  split <;> simp

theorem takeCompletionTest_desc : ((takeCompletionTest b s).bay i).desc = (s.bay i).desc := by
  simp only [takeCompletionTest]
  repeat' split
  all_goals simp

theorem takeLoadTimeout_desc : ((takeLoadTimeout b s).bay i).desc = (s.bay i).desc := by
  simp only [takeLoadTimeout]
  split <;> simp

theorem takeUnloadTimeout_desc : ((takeUnloadTimeout b s).bay i).desc = (s.bay i).desc := by
  simp only [takeUnloadTimeout]
  split <;> simp

theorem takeForcedUnload_desc : ((takeForcedUnload b s).bay i).desc = (s.bay i).desc := by
  simp only [takeForcedUnload]
  split <;> simp

theorem takeStopOrder_desc : ((takeStopOrder b s).bay i).desc = (s.bay i).desc := by
  simp only [takeStopOrder]
  split <;> simp

theorem takeStopOrderLift_desc : ((takeStopOrderLift b s).bay i).desc = (s.bay i).desc := by
  simp [takeStopOrderLift]

theorem takeLoadPermission_desc (allowed : Bool) : ((takeLoadPermission b allowed s).bay i).desc = (s.bay i).desc := by
  simp only [takeLoadPermission]
  split <;> simp

theorem takePwmBoundary_desc : ((takePwmBoundary b s).bay i).desc = (s.bay i).desc := by
  simp [takePwmBoundary]

theorem takeRampStep_desc : ((takeRampStep b s).bay i).desc = (s.bay i).desc := by
  simp only [takeRampStep]
  split <;> simp

theorem takeSpinupTimeout_desc : ((takeSpinupTimeout b s).bay i).desc = (s.bay i).desc := by
  simp only [takeSpinupTimeout]
  split <;> simp

theorem takeSettleTimeout_desc : ((takeSettleTimeout b s).bay i).desc = (s.bay i).desc := by
  simp only [takeSettleTimeout]
  split <;> simp

theorem takeSilence_desc : ((takeSilence b s).bay i).desc = (s.bay i).desc := by
  simp only [takeSilence]
  repeat' split
  all_goals simp

theorem takeTachQuiet_desc : ((takeTachQuiet b s).bay i).desc = (s.bay i).desc := by
  simp only [takeTachQuiet]
  repeat' split
  all_goals simp

theorem takeStopTimeout_desc : ((takeStopTimeout b s).bay i).desc = (s.bay i).desc := by
  simp only [takeStopTimeout]
  split <;> simp

theorem takeTachEdge_desc (us : Nat) : ((takeTachEdge b us s).bay i).desc = (s.bay i).desc := by
  simp only [takeTachEdge]
  repeat' split
  all_goals simp

theorem takeSpinGate_desc (opened : Bool) : ((takeSpinGate opened s).bay i).desc = (s.bay i).desc := by
  simp only [takeSpinGate]
  split <;> simp

theorem takeSource_desc (src : Source) : ((takeSource src s).bay i).desc = (s.bay i).desc := by
  simp [takeSource]

theorem takeSpacingExpiry_desc : ((takeSpacingExpiry s).bay i).desc = (s.bay i).desc := by
  simp only [takeSpacingExpiry]
  split <;> simp

/-! ## Requests -/

@[simp] theorem aimBay_desc (target : Intent) (level : Fin 4) :
    ((s.aimBay b target level).2.bay i).desc = (s.bay i).desc := by
  simp only [State.aimBay]
  repeat' split
  all_goals simp

theorem aimAll_desc (target : Intent) (level : Fin 4) : ∀ (bs : List BayId) (s : State),
    ((aimAll target level bs s).2.bay i).desc = (s.bay i).desc
  | [], _ => rfl
  | _ :: bs, _ => (aimAll_desc target level bs _).trans (aimBay_desc ..)

@[simp] theorem clearBay_desc : ((s.clearBay b).2.bay i).desc = (s.bay i).desc := by
  simp only [State.clearBay]
  split <;> simp

theorem clearAll_desc : ∀ (bs : List BayId) (s : State), ((clearAll bs s).2.bay i).desc = (s.bay i).desc
  | [], _ => rfl
  | _ :: bs, _ => (clearAll_desc bs _).trans (clearBay_desc ..)

/-- The access stored moves a bay and leaves every descriptor. -/
theorem applyAccess_desc (a : Access) : ((s.applyAccess b a).bay i).desc = (s.bay i).desc := by
  unfold State.applyAccess
  split <;> simp

/-- BAY_SETUP stores the descriptor in its bay and leaves every other. -/
theorem setUp_desc (d : Descriptor) : ((s.setUp b d).bay i).desc = if i = b then d else (s.bay i).desc := by
  rw [State.setUp, applyAccess_desc, mapBay_bay]
  split <;> rfl

end

end Sys2Proof.Machine
end

section
/-! SUPPORT. The Park Policy stays lawful: its outputs on its inputs, its bay table on the bays' descriptors, and
supervision OFF with period 0 alone, through every command and every step. -/

namespace Sys2Proof.Machine

/-! ## The three parts of the law -/

/-- The outputs are those that computing them afresh would give (R133). -/
def Policy.outputsFollow (p : Policy) : Prop := p.computed = p

/-- The bay table holds what the bays' descriptors say (R132). -/
def State.tableFollows (s : State) (p : Policy) : Prop :=
  ∀ b, atBay p.table b = { access := (s.bay b).desc.access, motionLimit := (s.bay b).desc.motionLimit }

/-- Supervision is OFF with period 0 alone (R150). -/
def Policy.offByPeriod (p : Policy) : Prop := p.supervision = .off ↔ p.period = 0

theorem outputsFollow_iff {p : Policy} :
    p.outputsFollow ↔
      (∀ b, atBay p.loadPermission b = p.load b) ∧ (∀ b, atBay p.flightPermission b = p.flight b) ∧
        p.gateOpen = p.gate ∧ p.stopStanding = p.stop := by
  have hload : tableOf p.load = p.loadPermission ↔ ∀ b, atBay p.loadPermission b = p.load b :=
    ⟨fun h b => by rw [← h, atBay_tableOf], fun h => table_ext fun b => by rw [h, atBay_tableOf]⟩
  have hflight : tableOf p.flight = p.flightPermission ↔ ∀ b, atBay p.flightPermission b = p.flight b :=
    ⟨fun h b => by rw [← h, atBay_tableOf], fun h => table_ext fun b => by rw [h, atBay_tableOf]⟩
  rw [← hload, ← hflight, eq_comm (a := p.gateOpen), eq_comm (a := p.stopStanding)]
  cases p
  simp [Policy.outputsFollow, Policy.computed]

theorem policyLawful_iff {s : State} :
    s.policyLawful ↔ s.policy.outputsFollow ∧ s.tableFollows s.policy ∧ s.policy.offByPeriod := by
  rw [outputsFollow_iff]
  simp only [and_assoc]
  rfl

/-! ## Inputs and outputs -/

/-- Outputs computed afresh are on their inputs. -/
theorem computed_outputsFollow (p : Policy) : p.computed.outputsFollow := rfl

/-- A reload in ACTIVE moves no output: none reads the expiry. -/
theorem outputsFollow_reloaded {p : Policy} {e : Clock} (h : p.outputsFollow) (hs : p.supervision = .active e)
    (now : Clock) : { p with supervision := p.reloaded now }.outputsFollow := by
  rw [outputsFollow_iff] at h ⊢
  simpa [Policy.load, Policy.flight, Policy.gate, Policy.stop, Policy.lapsedStop, Policy.inputsOpen, Policy.reloaded,
    hs] using h

/-- The state of a case input that is not in LEVEL mode moves no output (R134 condition 6). -/
theorem outputsFollow_withInput {p : Policy} {i : CaseInput} (h : p.outputsFollow) (hm : p.mode i ≠ .level)
    (asserted : Bool) : (p.withInput i asserted).outputsFollow := by
  rw [outputsFollow_iff] at h ⊢
  cases i <;>
    simp_all [Policy.load, Policy.flight, Policy.gate, Policy.stop, Policy.lapsedStop, Policy.inputsOpen,
      Policy.withInput, Policy.mode]

@[simp] theorem withInput_mode (p : Policy) (i j : CaseInput) (asserted : Bool) :
    (p.withInput i asserted).mode j = p.mode j := by cases i <;> cases j <;> rfl

@[simp] theorem withInput_table (p : Policy) (i : CaseInput) (asserted : Bool) :
    (p.withInput i asserted).table = p.table := by cases i <;> rfl

@[simp] theorem withInput_offByPeriod {p : Policy} {i : CaseInput} {asserted : Bool} :
    (p.withInput i asserted).offByPeriod ↔ p.offByPeriod := by cases i <;> rfl

theorem offByPeriod_active {p : Policy} {e : Clock} (hs : p.supervision = .active e) :
    p.offByPeriod ↔ p.period ≠ 0 := by simp [Policy.offByPeriod, hs]

theorem offByPeriod_lapsed {p : Policy} (hs : p.supervision = .lapsed) : p.offByPeriod ↔ p.period ≠ 0 := by
  simp [Policy.offByPeriod, hs]

theorem supervision_due_iff {now : Clock} {v : Supervision} :
    v.due now = true ↔ ∃ e, v = .active e ∧ reached now e = true := by
  cases v <;> simp [Supervision.due]

/-! ## What a re-evaluation gives -/

section
variable {s : State} {p : Policy}

theorem policyLawful_reevaluate (ht : s.tableFollows s.policy) (ho : s.policy.offByPeriod) :
    s.reevaluate.policyLawful := policyLawful_iff.mpr ⟨computed_outputsFollow _, ht, ho⟩

theorem policyLawful_reevaluated (ht : s.tableFollows p) (ho : p.offByPeriod) :
    (s.setPolicy p).reevaluate.policyLawful := policyLawful_reevaluate (s := s.setPolicy p) ht ho

/-- An input taken leaves the outputs on the inputs, whether it was new or already held (R133). -/
theorem policyLawful_policyInput (hf : s.policy.outputsFollow) (ht : s.tableFollows p) (ho : p.offByPeriod) :
    (s.policyInput p).policyLawful := by
  by_cases hp : p = s.policy
  · rw [policyInput_same hp]
    exact policyLawful_iff.mpr ⟨hf, hp ▸ ht, hp ▸ ho⟩
  · rw [policyInput_new hp]
    exact policyLawful_reevaluated ht ho

/-- The bay table takes a descriptor that its bay has just stored (R132). -/
theorem policyLawful_policyTable {t : State} {b : BayId} {d : Descriptor} (h : s.policyLawful)
    (hp : t.policy = s.policy) (hd : ∀ i, (t.bay i).desc = if i = b then d else (s.bay i).desc) :
    (t.policyTable b d).policyLawful := by
  obtain ⟨hf, ht, ho⟩ := policyLawful_iff.mp h
  refine policyLawful_policyInput (hp ▸ hf) (fun i => ?_) (hp ▸ ho)
  rw [atBay_putBay, hd, hp]
  split
  · rfl
  · exact ht i

end

/-! ## Work that keeps the Park Policy lawful -/

/-- From `s` to `t` the Park Policy stays lawful. -/
structure PolicyKept (s t : State) : Prop where
  lawful : s.policyLawful → t.policyLawful

namespace PolicyKept

section
variable {s t u : State}

theorem refl (s : State) : PolicyKept s s := ⟨id⟩

theorem trans (h : PolicyKept s t) (h' : PolicyKept t u) : PolicyKept s u := ⟨h'.lawful ∘ h.lawful⟩

/-- Work that leaves the policy and the descriptors. -/
theorem of_desc (hp : t.policy = s.policy) (hd : ∀ b, (t.bay b).desc = (s.bay b).desc) : PolicyKept s t := by
  refine ⟨fun h => ?_⟩
  obtain ⟨hf, ht, ho⟩ := policyLawful_iff.mp h
  exact policyLawful_iff.mpr ⟨hp ▸ hf, fun b => by rw [hp, hd]; exact ht b, hp ▸ ho⟩

/-- Work of other blocks. -/
theorem frame (hp : t.policy = s.policy) (hb : t.bays = s.bays) : PolicyKept s t :=
  of_desc hp fun b => by rw [State.bay, State.bay, hb]

theorem of_bay (w : BayWork s t) (hd : ∀ b, (t.bay b).desc = (s.bay b).desc) : PolicyKept s t := of_desc w.policy hd

theorem of_motion (w : MotionWork s t) : PolicyKept s t := by
  obtain ⟨_, _, rfl⟩ := w
  exact frame rfl rfl

theorem handOn (s : State) (l : List Instr) : PolicyKept s (s.handOn l) := frame rfl rfl
theorem taken (s : State) (c : Instr) : PolicyKept s (s.taken c) := frame rfl rfl
theorem setLink (s : State) (l : Link) : PolicyKept s (s.setLink l) := frame rfl rfl

end

/-! ## Commands of the policy -/

section
variable (s : State)

theorem takeVerdict (cls : Option MotionClass) (tilt : Option Tilt) (quiet : Option Bool) :
    PolicyKept s (takeVerdict cls tilt quiet s) := by
  refine ⟨fun h => ?_⟩
  obtain ⟨hf, ht, ho⟩ := policyLawful_iff.mp h
  exact policyLawful_policyInput hf ht ho

theorem takeSupplyState (st : SupplyState) : PolicyKept s (takeSupplyState st s) := by
  refine ⟨fun h => ?_⟩
  obtain ⟨hf, ht, ho⟩ := policyLawful_iff.mp h
  exact policyLawful_policyInput hf ht ho

/-- In OFF and EDGE mode the state of an input moves no output, and a forced unload is an order, not an input. -/
theorem takeAssertion (i : CaseInput) : PolicyKept s (takeAssertion i s) := by
  refine ⟨fun h => ?_⟩
  obtain ⟨hf, ht, ho⟩ := policyLawful_iff.mp h
  have ht' : s.tableFollows (s.policy.withInput i true) := fun b => by rw [withInput_table]; exact ht b
  have ho' := withInput_offByPeriod (i := i) (asserted := true).mpr ho
  simp only [Machine.takeAssertion, withInput_mode]
  split
  next => exact h
  next =>
    split
    next hm => exact policyLawful_iff.mpr ⟨outputsFollow_withInput hf (by simp [hm]) true, ht', ho'⟩
    next => exact (handOn _ _).lawful (policyLawful_reevaluated ht' ho')
    next hm =>
      exact (handOn _ _).lawful
        (policyLawful_policyInput (outputsFollow_withInput hf (by simp [hm]) true) ht' ho')

theorem takeRelease (i : CaseInput) : PolicyKept s (takeRelease i s) := by
  refine ⟨fun h => ?_⟩
  obtain ⟨hf, ht, ho⟩ := policyLawful_iff.mp h
  have ht' : s.tableFollows (s.policy.withInput i false) := fun b => by rw [withInput_table]; exact ht b
  have ho' := withInput_offByPeriod (i := i) (asserted := false).mpr ho
  simp only [Machine.takeRelease, withInput_mode]
  split
  next =>
    split
    next hm => exact policyLawful_iff.mpr ⟨outputsFollow_withInput hf (by simp [hm]) false, ht', ho'⟩
    next hm => exact policyLawful_iff.mpr ⟨outputsFollow_withInput hf (by simp [hm]) false, ht', ho'⟩
    next => exact policyLawful_reevaluated ht' ho'
  next => exact h

/-- Supervision lapses from ACTIVE, so its period is not 0. -/
theorem takeLapse : PolicyKept s (takeLapse s) := by
  refine ⟨fun h => ?_⟩
  obtain ⟨-, ht, ho⟩ := policyLawful_iff.mp h
  unfold Machine.takeLapse
  split
  next hdue =>
    obtain ⟨e, he, -⟩ := supervision_due_iff.mp hdue
    exact policyLawful_reevaluate ht ((offByPeriod_lapsed rfl).mpr ((offByPeriod_active he).mp ho))
  next => exact h

theorem acceptedRequest : PolicyKept s s.acceptedRequest := by
  refine ⟨fun h => ?_⟩
  obtain ⟨hf, ht, ho⟩ := policyLawful_iff.mp h
  unfold State.acceptedRequest
  split
  next => exact h
  next e he =>
    exact policyLawful_iff.mpr
      ⟨outputsFollow_reloaded hf he s.clock, ht, (offByPeriod_active rfl).mpr ((offByPeriod_active he).mp ho)⟩
  next hl => exact policyLawful_reevaluated ht ((offByPeriod_active rfl).mpr ((offByPeriod_lapsed hl).mp ho))

theorem restartSupervision : PolicyKept s s.restartSupervision := by
  refine ⟨fun h => ?_⟩
  obtain ⟨hf, ht, ho⟩ := policyLawful_iff.mp h
  unfold State.restartSupervision
  split
  next => exact h
  next hperiod =>
    have ho' : { s.policy with supervision := s.policy.reloaded s.clock }.offByPeriod :=
      (offByPeriod_active rfl).mpr hperiod
    dsimp only
    split
    next e he => exact policyLawful_iff.mpr ⟨outputsFollow_reloaded hf he s.clock, ht, ho'⟩
    all_goals exact policyLawful_reevaluated ht ho'

theorem caseSetup (r : RawCase) : PolicyKept s (s.caseSetup r) := by
  refine ⟨fun h => ?_⟩
  obtain ⟨-, ht, -⟩ := policyLawful_iff.mp h
  refine policyLawful_reevaluate ht ?_
  change (if r.period.toNat = 0 then Supervision.off else _) = .off ↔ r.period.toNat = 0
  split <;> simp_all

/-! ## Requests and the line -/

theorem carryOut (r : Request) : PolicyKept s (carryOut r s).2 := by
  cases r with
  | baySetup bay d =>
    simp only [Machine.carryOut, workBaySetup]
    split
    · exact refl s
    next b _ =>
      split
      · exact ⟨fun h => policyLawful_policyTable h ((BayWork.mapBay ..).trans (.applyAccess ..)).policy
          fun i => setUp_desc ..⟩
      · exact refl s
  | bayAim bays target priority =>
    simp only [Machine.carryOut, workBayAim]
    split
    · exact refl s
    · exact of_bay (.aimAll ..) fun i => aimAll_desc ..
  | bayClear bays =>
    simp only [Machine.carryOut, workBayClear]
    split
    · exact refl s
    · exact of_bay (.clearAll ..) fun i => clearAll_desc ..
  | bayQuery bay => simp only [Machine.carryOut, workBayQuery]; split <;> exact refl s
  | bayDescribe bay => simp only [Machine.carryOut, workBayDescribe]; split <;> exact refl s
  | motionSetup r => exact of_motion (.motionSetup ..)
  | powerSetup r =>
    have set : PolicyKept s ((s.setArbiter (s.arbiter.withSettings r)).setSupply (s.supply.withSettings r)) :=
      frame rfl rfl
    exact set.trans (of_bay (.evaluate _) fun i => evaluate_desc ..)
  | powerQuery =>
    simp only [Machine.carryOut, workPowerQuery]
    split
    · exact frame rfl rfl
    · exact refl s
  | caseSetup r => exact caseSetup s r
  | noticeMask mask => exact frame rfl rfl
  | noticeFetch =>
    simp only [Machine.carryOut, workNoticeFetch]
    split
    · exact refl s
    · exact frame rfl rfl
  | faultRead =>
    simp only [Machine.carryOut, workFaultRead]
    split
    · exact refl s
    · exact frame rfl rfl
  | ident | restart | motionQuery | trace | episodes | caseQuery | noticeStatus => exact refl s

theorem dispatch (item : Item) : PolicyKept s (s.dispatch item) := by
  cases item with
  | request r => exact ((acceptedRequest s).trans (carryOut _ r)).trans (setLink ..)
  | badSize kind => exact (acceptedRequest s).trans (setLink ..)
  | linkError code detail => exact setLink ..

theorem itemMade (item : Item) : PolicyKept s (s.itemMade item) := by
  unfold State.itemMade
  split
  · exact dispatch s item
  · split <;> exact setLink ..

theorem receive (c : Byte) : PolicyKept s (s.receive c) := by
  have hunts : ∀ item, PolicyKept s (s.hunts.itemMade item) := fun item => (setLink s _).trans (itemMade s.hunts item)
  unfold State.receive
  split <;> split
  · exact setLink ..
  · exact refl s
  · exact setLink ..
  · exact hunts _
  · exact setLink ..
  · split <;> exact hunts _

theorem takeCharacter (data : Byte) (stopHigh : Bool) : PolicyKept s (takeCharacter data stopHigh s) := by
  unfold Machine.takeCharacter
  split
  · exact (setLink s _).trans (receive _ data)
  · exact refl s

theorem takeGap : PolicyKept s (takeGap s) := by
  unfold Machine.takeGap
  split
  · exact (setLink s _).trans (itemMade s.hunts _)
  · exact refl s

theorem takeEndOfReply : PolicyKept s (takeEndOfReply s) := by
  unfold Machine.takeEndOfReply
  split
  · exact refl s
  · refine PolicyKept.trans (frame ?_ ?_) (restartSupervision _) <;> rfl
  · split
    · exact setLink ..
    · exact (setLink s _).trans (dispatch _ _)

/-! ## Records, reset, time -/

theorem takeCapture (c : Capture) : PolicyKept s (takeCapture c s) := by
  unfold Machine.takeCapture
  split <;> exact frame rfl rfl

/-- A full reset leaves policy and bays as `State.reset` has them. -/
theorem fullReset (phase : Phase) (cause : ResetCause) (inputs : Inputs) (drawn : Nat) (pending : List Instr) :
    PolicyKept s (.fullReset phase cause inputs drawn pending) :=
  ⟨fun _ => (frame (s := State.reset) rfl rfl).lawful reset_policyLawful⟩

theorem takeResetRelease : PolicyKept s (takeResetRelease s) := by
  unfold Machine.takeResetRelease
  split
  · exact fullReset ..
  · exact refl s
  · exact refl s

theorem takeStartUpEnd : PolicyKept s (takeStartUpEnd s) := by
  unfold Machine.takeStartUpEnd
  split
  · exact refl s
  · split
    · exact frame rfl rfl
    · exact refl s
  · exact refl s

/-- The samples move counts, which no output reads, and no descriptor. -/
theorem tick : PolicyKept s s.tick := by
  unfold State.tick
  split
  · exact refl s
  · exact frame rfl rfl
  · refine ⟨fun h => ?_⟩
    obtain ⟨hload, hflight, hgate, hstop, htable, hoff⟩ := h
    refine ⟨hload, hflight, hgate, hstop, fun b => ?_, hoff⟩
    rw [handOn_bay, sampled_bay]
    exact htable b

/-! ## Every command and every step -/

variable {s} {t : State}

theorem event {c : Instr} {f : State → State} (h : s.event c f = .next t)
    (hf : PolicyKept (s.taken c) (f (s.taken c))) : PolicyKept s t := by
  rcases event_next h with ⟨-, rfl⟩ | ⟨-, rfl⟩
  · exact (taken s c).trans hf
  · exact taken s c

theorem bayEvent {c : Instr} {f : State → State} (h : s.event c f = .next t)
    (w : BayWork (s.taken c) (f (s.taken c))) (hd : ∀ b, ((f (s.taken c)).bay b).desc = ((s.taken c).bay b).desc) :
    PolicyKept s t := event h (of_bay w hd)

theorem exec (c : Instr) (h : exec c s = .next t) : PolicyKept s t := by
  cases c with
  | ident | restart | baySetup | bayAim | bayClear | bayQuery | bayDescribe | motionSetup | motionQuery | trace
  | episodes | powerSetup | powerQuery | caseSetup | caseQuery | noticeMask | noticeFetch | noticeStatus | faultRead =>
    exact event h (itemMade ..)
  | characterReception => exact event h (takeCharacter ..)
  | gapError => exact event h (takeGap _)
  | endOfReply => exact event h (takeEndOfReply _)
  | powerOn | brownout | pinReset => cases h; exact fullReset ..
  | resetRelease => cases h; exact (taken s _).trans (takeResetRelease _)
  | startUpIntervalEnd => cases h; exact (taken s _).trans (takeStartUpEnd _)
  | unseat => exact bayEvent h (.takeUnseat ..) fun _ => takeUnseat_desc ..
  | reseat => exact bayEvent h (.takeReseat ..) fun _ => takeReseat_desc ..
  | prkRelease => exact bayEvent h (.takePrkRelease ..) fun _ => takePrkRelease_desc ..
  | prkAssertion => exact bayEvent h (.takePrkAssertion ..) fun _ => takePrkAssertion_desc ..
  | unloadGuardExpiry => exact bayEvent h (.takeGuardExpiry ..) fun _ => takeGuardExpiry_desc ..
  | unloadCompletion => exact bayEvent h (.takeCompletionTest ..) fun _ => takeCompletionTest_desc ..
  | tachEdge => exact bayEvent h (.takeTachEdge ..) fun _ => takeTachEdge_desc ..
  | rampStep => exact bayEvent h (.takeRampStep ..) fun _ => takeRampStep_desc ..
  | spinupTimeout => exact bayEvent h (.takeSpinupTimeout ..) fun _ => takeSpinupTimeout_desc ..
  | settleTimeout => exact bayEvent h (.takeSettleTimeout ..) fun _ => takeSettleTimeout_desc ..
  | silenceTimerExpiry => exact bayEvent h (.takeSilence ..) fun _ => takeSilence_desc ..
  | tachQuiet => exact bayEvent h (.takeTachQuiet ..) fun _ => takeTachQuiet_desc ..
  | stopTimeout => exact bayEvent h (.takeStopTimeout ..) fun _ => takeStopTimeout_desc ..
  | loadTimeout => exact bayEvent h (.takeLoadTimeout ..) fun _ => takeLoadTimeout_desc ..
  | unloadTimeout => exact bayEvent h (.takeUnloadTimeout ..) fun _ => takeUnloadTimeout_desc ..
  | forcedUnloadOrder => exact bayEvent h (.takeForcedUnload ..) fun _ => takeForcedUnload_desc ..
  | stopOrder => exact bayEvent h (.takeStopOrder ..) fun _ => takeStopOrder_desc ..
  | stopOrderLift => exact bayEvent h (.takeStopOrderLift ..) fun _ => takeStopOrderLift_desc ..
  | loadPermissionReport => exact bayEvent h (.takeLoadPermission ..) fun _ => takeLoadPermission_desc ..
  | spinGateReport => exact bayEvent h (.takeSpinGate ..) fun _ => takeSpinGate_desc ..
  | sourceReport => exact bayEvent h (.takeSource ..) fun _ => takeSource_desc ..
  | spacingTimerExpiry => exact bayEvent h (.takeSpacingExpiry _) fun _ => takeSpacingExpiry_desc ..
  | pwmPeriodBoundary => exact bayEvent h (.takePwmBoundary ..) fun _ => takePwmBoundary_desc ..
  | drdyEdge => exact event h (of_motion (.takeDrdy _))
  | identityReadComplete => exact event h (of_motion (.takeIdentity ..))
  | setupWindowExpiry => exact event h (of_motion (.takeWindowExpiry _))
  | retryTimerExpiry => exact event h (of_motion (.takeRetryExpiry _))
  | drdyWatchExpiry => exact event h (of_motion (.takeWatchExpiry _))
  | sampleArrival => exact event h (of_motion (.takeArrival ..))
  | quietTimerExpiry => exact event h (of_motion (.takeQuietExpiry _))
  | quietRestartRequest => exact event h (of_motion (.takeQuietRestart _))
  | unloadReport => exact event h (of_motion (.takeUnloadReport _))
  | strandingReport => exact event h (of_motion (.takeStrandingReport _))
  | motionVerdictHandoff => exact event h (takeVerdict ..)
  | supplyStateReport => exact event h (takeSupplyState ..)
  | caseInputAssertion => exact event h (takeAssertion ..)
  | caseInputRelease => exact event h (takeRelease ..)
  | supervisionLapse => exact event h (takeLapse _)
  | supplySample => exact event h (frame rfl rfl)
  | faultCapture => exact event h (takeCapture ..)
  | noticePost => exact event h (frame rfl rfl)

theorem step (h : step s = .next t) : PolicyKept s t := by
  unfold Machine.step at h
  split at h
  next c rest _ => exact (frame (s := s) (t := { s with pending := rest }) rfl rfl).trans (exec c h)
  next =>
    split at h
    next => exact exec _ h
    next => cases h; exact tick s

end

end PolicyKept

/-- Settles O52: each command re-evaluates wherever it changes an input that an output reads, and BAY_SETUP alone
changes a descriptor, which it also copies to the table. -/
theorem stepsKeepThePolicyLawful : Obligations.StepsKeepThePolicyLawful :=
  fun _ _ hs h => (PolicyKept.step h).lawful hs

end Sys2Proof.Machine
end

section
/-! SUPPORT. A re-evaluation: each output by its conditions, and the orders that it hands on. -/

namespace Sys2Proof.Machine

/-! ## The outputs by their conditions (R134, R135, R138, R139) -/

section
variable {p : Policy} {b : BayId}

theorem flight_iff :
    p.flight b = true ↔
      (p.classSeen = .still ∨ (p.classSeen = .rolling ∧ (atBay p.table b).motionLimit = .rolling)) ∧
        p.tiltSeen = .level ∧ (p.supplySeen = .normal ∨ p.supplySeen = .low) ∧ p.supervision ≠ .lapsed ∧
        ¬ ((p.handleMode = .level ∧ p.handleState = true) ∨ (p.lidMode = .level ∧ p.lidState = true)) ∧
        (atBay p.table b).access = .full := by
  simp only [Policy.flight, Bool.and_eq_true, Bool.or_eq_true, decide_eq_true_eq, classWithin_iff, inputsOpen_iff,
    not_or, and_assoc]

theorem load_iff : p.load b = true ↔ p.flight b = true ∧ p.quietSeen = true := by
  simp only [Policy.load, Bool.and_eq_true]

theorem gate_iff :
    p.gate = true ↔
      (p.classSeen = .still ∨ p.classSeen = .rolling) ∧ p.supplySeen = .normal ∧
        ¬ (p.supervision = .lapsed ∧ p.action = .stop) := by
  simp only [Policy.gate, Bool.and_eq_true, Bool.or_eq_true, decide_eq_true_eq, Bool.not_eq_true', ← lapsedStop_iff,
    Bool.not_eq_true, and_assoc]

theorem stop_iff : p.stop = true ↔ p.supplySeen = .critical ∨ (p.supervision = .lapsed ∧ p.action = .stop) := by
  simp only [Policy.stop, Bool.or_eq_true, decide_eq_true_eq, lapsedStop_iff]

end

/-! ## The orders (R136, R137, R139) -/

/-- The changes of load permissions (R136). -/
def loadReports (p q : Policy) : List Instr :=
  (bayIds.filter fun b => atBay p.loadPermission b != atBay q.loadPermission b).map fun b =>
    .loadPermissionReport b (atBay q.loadPermission b)

/-- The forced-unload orders (R137). -/
def unloadOrders (p q : Policy) : List Instr :=
  (bayIds.filter fun b => atBay p.flightPermission b && !atBay q.flightPermission b).map .forcedUnloadOrder

/-- The stop order or its lifting, to every bay (R139). -/
def stopOrders (p q : Policy) : List Instr :=
  if q.stopStanding && !p.stopStanding then bayIds.map .stopOrder
  else if p.stopStanding && !q.stopStanding then bayIds.map .stopOrderLift else []

section
variable {p q : Policy} {e : Instr}

/-- The spin gate comes after every order (R138). -/
theorem policyHandoffs_eq (p q : Policy) :
    policyHandoffs p q =
      (loadReports p q ++ unloadOrders p q ++ stopOrders p q) ++
        if p.gateOpen = q.gateOpen then [] else [.spinGateReport q.gateOpen] := rfl

theorem mem_loadReports :
    e ∈ loadReports p q ↔
      ∃ b v, e = .loadPermissionReport b v ∧ atBay p.loadPermission b ≠ v ∧ atBay q.loadPermission b = v := by
  simp only [loadReports, List.mem_map, List.mem_filter, mem_bayIds, true_and, bne_iff_ne]
  constructor
  · rintro ⟨b, hne, rfl⟩
    exact ⟨b, _, rfl, hne, rfl⟩
  · rintro ⟨b, _, rfl, hne, rfl⟩
    exact ⟨b, hne, rfl⟩

theorem mem_unloadOrders :
    e ∈ unloadOrders p q ↔
      ∃ b, e = .forcedUnloadOrder b ∧ atBay p.flightPermission b = true ∧ atBay q.flightPermission b = false := by
  simp only [unloadOrders, List.mem_map, List.mem_filter, mem_bayIds, true_and, Bool.and_eq_true, Bool.not_eq_true',
    and_comm, eq_comm (a := e)]

theorem mem_stopOrders :
    e ∈ stopOrders p q ↔
      (∃ b, e = .stopOrder b ∧ p.stopStanding = false ∧ q.stopStanding = true) ∨
        ∃ b, e = .stopOrderLift b ∧ p.stopStanding = true ∧ q.stopStanding = false := by
  unfold stopOrders
  cases p.stopStanding <;> cases q.stopStanding <;> simp [mem_bayIds, eq_comm (a := e)]

theorem nodup_loadReports : (loadReports p q).Nodup :=
  (nodup_bayIds.filter _).map fun _ _ h => (Instr.loadPermissionReport.inj h).1

theorem nodup_unloadOrders : (unloadOrders p q).Nodup :=
  (nodup_bayIds.filter _).map fun _ _ h => Instr.forcedUnloadOrder.inj h

theorem nodup_stopOrders : (stopOrders p q).Nodup := by
  unfold stopOrders
  split
  · exact nodup_bayIds.map fun _ _ h => Instr.stopOrder.inj h
  · split
    · exact nodup_bayIds.map fun _ _ h => Instr.stopOrderLift.inj h
    · exact List.nodup_nil

/-- The three kinds of orders are of different commands. -/
theorem nodup_orders : (loadReports p q ++ unloadOrders p q ++ stopOrders p q).Nodup := by
  refine (nodup_loadReports.append nodup_unloadOrders ?_).append nodup_stopOrders ?_
  · intro e hload hunload
    obtain ⟨_, _, rfl, -⟩ := mem_loadReports.mp hload
    obtain ⟨_, ⟨⟩, -⟩ := mem_unloadOrders.mp hunload
  · intro e horder hstop
    rcases List.mem_append.mp horder with horder | horder
    · obtain ⟨_, _, rfl, -⟩ := mem_loadReports.mp horder
      rcases mem_stopOrders.mp hstop with ⟨_, ⟨⟩, -⟩ | ⟨_, ⟨⟩, -⟩
    · obtain ⟨_, rfl, -⟩ := mem_unloadOrders.mp horder
      rcases mem_stopOrders.mp hstop with ⟨_, ⟨⟩, -⟩ | ⟨_, ⟨⟩, -⟩

end

/-- Settles O48: the outputs by `flight_iff`, `load_iff`, `gate_iff` and `stop_iff`, the orders by what each of the three
lists holds. -/
theorem reevaluationHandsOnEachChange : Obligations.ReevaluationHandsOnEachChange := by
  intro s p q asserted lapsedStop flies
  refine ⟨fun b => ⟨?_, ?_⟩, gate_iff, stop_iff,
    loadReports p q ++ unloadOrders p q ++ stopOrders p q, ?_, nodup_orders, fun e => ?_⟩
  · exact (Bool.eq_iff_iff.mp (computed_flightPermission p b)).trans flight_iff
  · exact (Bool.eq_iff_iff.mp (computed_loadPermission p b)).trans (load_iff.trans (and_congr_left' flight_iff))
  · rw [List.append_assoc s.inFlight, ← policyHandoffs_eq]
    rfl
  · rw [List.mem_append, List.mem_append, mem_loadReports, mem_unloadOrders, mem_stopOrders, or_assoc]

end Sys2Proof.Machine
end

section
/-! SUPPORT. What the Park Policy takes: handed changes, the lapse, accepted requests, case inputs, CASE_SETUP. -/

namespace Sys2Proof.Machine

/-! ## Inputs (R132, R133) -/

/-- A handed value that changes nothing leaves the part as it is; any other re-evaluates. -/
theorem event_policyInput {s : State} (h : s.phase = .operating) (c : Instr) {f : State → State} {p : Policy}
    (hf : f (s.taken c) = (s.taken c).policyInput p) :
    (p = s.policy → s.event c f = .next (s.taken c)) ∧
      (p ≠ s.policy → s.event c f = .next ((s.taken c).setPolicy p).reevaluate) := by
  rw [event_operating h, hf]
  exact ⟨fun hp => by rw [policyInput_same (s := s.taken c) hp],
    fun hp => by rw [policyInput_new (s := s.taken c) hp]⟩

theorem supplySeen_eq_iff {p : Policy} {st : SupplyState} : { p with supplySeen := st } = p ↔ st = p.supplySeen := by
  cases p
  simp

theorem takeLapse_due {s : State} {e : Clock} (hs : s.policy.supervision = .active e) (hr : reached s.clock e = true) :
    takeLapse s =
      (((s.setPolicy { s.policy with supervision := .lapsed }).post .supervision
        { b0 := 0, b1 := 0, b2 := 0, b3 := 0 }).setLink { s.link with lapseSeen := true }).reevaluate :=
  if_pos (supervision_due_iff.mpr ⟨e, hs, hr⟩)

/-! ## Accepted requests (R147, R149) -/

section
variable {s : State}

theorem acceptedRequest_off (h : s.policy.supervision = .off) : s.acceptedRequest = s := by
  simp [State.acceptedRequest, h]

theorem acceptedRequest_active {e : Clock} (h : s.policy.supervision = .active e) :
    s.acceptedRequest = s.setPolicy { s.policy with supervision := s.policy.reloaded s.clock } := by
  simp [State.acceptedRequest, h]

theorem acceptedRequest_lapsed (h : s.policy.supervision = .lapsed) :
    s.acceptedRequest = (s.setPolicy { s.policy with supervision := s.policy.reloaded s.clock }).reevaluate := by
  simp [State.acceptedRequest, h]

end

/-- Settles O49, input by input. -/
theorem policyTakesItsInputs : Obligations.PolicyTakesItsInputs := by
  refine ⟨fun s hp => ⟨fun cls tilt quiet => ?_, fun st => ?_, fun e hs hr => ?_⟩,
    fun s => ⟨acceptedRequest_off, fun _ => acceptedRequest_active, acceptedRequest_lapsed⟩⟩
  · exact event_policyInput hp _ (by cases cls <;> cases tilt <;> cases quiet <;> rfl)
  · have h := event_policyInput hp (.supplyStateReport st) (f := takeSupplyState st) rfl
    exact ⟨fun he => h.1 (supplySeen_eq_iff.mpr he), fun hne => h.2 (mt supplySeen_eq_iff.mp hne)⟩
  · exact (event_operating hp _ _).trans (congrArg _ (takeLapse_due (s := s.taken .supervisionLapse) hs hr))

/-! ## Case inputs (R142 to R144) -/

/-- The INPUT notice of a case input (R196). -/
def inputNotice (i : CaseInput) (now : Clock) (level : Byte) : Instr :=
  .noticePost .input now { b0 := if i = .handle then 0 else 1, b1 := level, b2 := 0, b3 := 0 }

theorem postInput_asserted (s : State) (i : CaseInput) :
    s.postInput i true = s.handOn [inputNotice i s.clock 1] := by cases i <;> rfl

theorem postInput_released (s : State) (i : CaseInput) :
    s.postInput i false = s.handOn [inputNotice i s.clock 0] := by cases i <;> rfl

@[simp] theorem withInput_quietSeen (p : Policy) (i : CaseInput) (asserted : Bool) :
    (p.withInput i asserted).quietSeen = p.quietSeen := by cases i <;> rfl

theorem quietSeen_eq_iff {p : Policy} {v : Bool} : { p with quietSeen := v } = p ↔ v = p.quietSeen := by
  cases p
  simp

section
variable {s : State} {i : CaseInput}

theorem takeAssertion_off (hs : s.policy.asserted i = false) (hm : s.policy.mode i = .off) :
    takeAssertion i s = s.setPolicy (s.policy.withInput i true) := by
  simp [takeAssertion, hs, hm]

theorem takeAssertion_level (hs : s.policy.asserted i = false) (hm : s.policy.mode i = .level) :
    takeAssertion i s =
      (s.setPolicy (s.policy.withInput i true)).reevaluate.handOn [inputNotice i s.clock 1] := by
  simp [takeAssertion, hs, hm, postInput_asserted]

/-- In EDGE mode the orders and the restart request go out first, and then the quiet seen is taken as not QUIET. -/
theorem takeAssertion_edge (hs : s.policy.asserted i = false) (hm : s.policy.mode i = .edge) :
    takeAssertion i s =
      (((s.setPolicy (s.policy.withInput i true)).handOn
        (bayIds.map .forcedUnloadOrder ++ [.quietRestartRequest])).policyInput
          { s.policy.withInput i true with quietSeen := false }).postInput i true := by
  simp [takeAssertion, hs, hm]

theorem takeAssertion_edge_quiet (hs : s.policy.asserted i = false) (hm : s.policy.mode i = .edge)
    (hq : s.policy.quietSeen = true) :
    takeAssertion i s =
      (((s.setPolicy (s.policy.withInput i true)).handOn
        (bayIds.map .forcedUnloadOrder ++ [.quietRestartRequest])).setPolicy
          { s.policy.withInput i true with quietSeen := false }).reevaluate.handOn [inputNotice i s.clock 1] := by
  have hnew : { s.policy.withInput i true with quietSeen := false } ≠ s.policy.withInput i true := by
    rw [ne_eq, quietSeen_eq_iff]
    simp [hq]
  rw [takeAssertion_edge hs hm, policyInput_new (by simpa using hnew), postInput_asserted]
  rfl

theorem takeAssertion_edge_notQuiet (hs : s.policy.asserted i = false) (hm : s.policy.mode i = .edge)
    (hq : s.policy.quietSeen = false) :
    takeAssertion i s =
      ((s.setPolicy (s.policy.withInput i true)).handOn
        (bayIds.map .forcedUnloadOrder ++ [.quietRestartRequest])).handOn [inputNotice i s.clock 1] := by
  have hold : { s.policy.withInput i true with quietSeen := false } = s.policy.withInput i true :=
    quietSeen_eq_iff.mpr (by simp [hq])
  rw [takeAssertion_edge hs hm, policyInput_same (by simpa using hold), postInput_asserted]
  rfl

theorem takeRelease_silent (hs : s.policy.asserted i = true) (hm : s.policy.mode i ≠ .level) :
    takeRelease i s = s.setPolicy (s.policy.withInput i false) := by
  cases h : s.policy.mode i <;> simp_all [takeRelease]

theorem takeRelease_level (hs : s.policy.asserted i = true) (hm : s.policy.mode i = .level) :
    takeRelease i s =
      ((s.handOn ([inputNotice i s.clock 0] ++ [.quietRestartRequest])).setPolicy
        { s.policy.withInput i false with quietSeen := false }).reevaluate := by
  simp [takeRelease, hs, hm, postInput_released]

end

/-- Settles O50, mode by mode. -/
theorem caseInputsActByMode : Obligations.CaseInputsActByMode := by
  intro i s hp p after mode state notice a r edge
  have assertion : ∀ {t}, takeAssertion i (s.taken (.caseInputAssertion i)) = t →
      exec (.caseInputAssertion i) s = .next t := fun h => h ▸ event_operating hp ..
  have release : ∀ {t}, takeRelease i r = t → exec (.caseInputRelease i) s = .next t := fun h =>
    h ▸ event_operating hp ..
  have hafter : ∀ v, p.withInput i v = after v := fun v => by cases i <;> rfl
  have hmode : p.mode i = mode := by cases i <;> rfl
  have hstate : p.asserted i = state := by cases i <;> rfl
  simp only [a, r, edge, ← hafter, ← hmode, ← hstate]
  exact ⟨fun hs => ⟨fun hm => assertion (takeAssertion_off hs hm), fun hm => assertion (takeAssertion_level hs hm),
      fun hm hq => assertion (takeAssertion_edge_quiet hs hm hq),
      fun hm hq => assertion (takeAssertion_edge_notQuiet hs hm hq)⟩,
    fun hs => ⟨fun hm => release (takeRelease_silent hs hm), fun hm => release (takeRelease_level hs hm)⟩⟩

/-! ## CASE_SETUP (R145, R150, R196) -/

theorem inputModeOf_eq (m : Byte) : inputModeOf m = if m = 0 then .off else if m = 1 then .level else .edge := by
  unfold inputModeOf
  simp only [BitVec.toNat_eq]
  split <;> simp_all

theorem actionOf_eq (a : Byte) : actionOf a = if a = 0 then .park else .stop := by
  unfold actionOf
  simp only [BitVec.toNat_eq]
  split <;> simp_all

theorem inputModeByte (m : Byte) : packed (inputModeCode (inputModeOf m)) = if 2 ≤ m.toNat then 2 else m := by
  revert m
  decide

theorem actionByte (a : Byte) : packed (actionCode (actionOf a)) = if a = 0 then 0 else 1 := by
  rw [actionOf_eq]
  split <;> rfl

theorem leavesLevel_iff {old new : InputMode} {asserted : Bool} :
    leavesLevel old new asserted = true ↔ old = .level ∧ new ≠ .level ∧ asserted = true := by
  simp [leavesLevel, and_assoc]

/-- A CASE_SETUP record comes back as it was written when every field was in range. -/
theorem caseInRange_eq_iff (r : RawCase) :
    caseInRange r = r ↔ r.handleMode.toNat < 3 ∧ r.lidMode.toNat < 3 ∧ r.action.toNat < 2 := by
  have hmode : ∀ m : Byte, (if 2 ≤ m.toNat then 2 else m) = m ↔ m.toNat < 3 := by decide
  have haction : ∀ a : Byte, (if a = 0 then 0 else 1) = a ↔ a.toNat < 2 := by decide
  rw [← hmode, ← hmode, ← haction, ← inputModeByte, ← inputModeByte, ← actionByte]
  cases r
  simp [caseInRange]

theorem caseRecord_caseSetup (s : State) (r : RawCase) : caseRecord (s.caseSetup r).policy = caseInRange r := by
  change ({ caseInRange r with period := BitVec.ofNat 8 r.period.toNat } : RawCase) = caseInRange r
  rw [BitVec.ofNat_toNat, BitVec.setWidth_eq]
  rfl

theorem workCaseSetup_eq (s : State) (r : RawCase) :
    workCaseSetup r s =
      ({ result := .ok, clamped := decide (caseInRange r ≠ r), payload := (caseInRange r).bytes }, s.caseSetup r) := by
  rw [workCaseSetup, caseRecord_caseSetup]

theorem exec_caseSetup {s : State} (h : s.canAnswer) (r : RawCase) :
    exec (.caseSetup r) s =
      let a := workCaseSetup r (s.taken (.caseSetup r)).acceptedRequest
      .next (a.2.sendReply 0xC0 a.1.result a.1.clamped a.1.payload false) := request_answered h.1 h.2 _ _

/-- Settles O51: what is stored field by field, and the echo by `caseInRange_eq_iff`. -/
theorem caseSetupActsOnModesAndPeriod : Obligations.CaseSetupActsOnModesAndPeriod := by
  intro r s ha s1 p modeFor leaves handleLeaves lidLeaves request stored
  have hclock : s1.clock = s.clock := by simp [s1]
  have hperiod : r.period.toNat = 0 ↔ r.period = 0 := by simp [BitVec.toNat_eq]
  have hsetup : s1.caseSetup r =
      ((s1.handOn (request handleLeaves ++ request lidLeaves)).setPolicy stored).reevaluate := by
    simp only [State.caseSetup, handOn_handOn, leavesLevel_iff, Bool.or_eq_true, inputModeOf_eq, actionOf_eq, hclock,
      hperiod]
    rfl
  have hclamped : decide (caseInRange r ≠ r) =
      decide (3 ≤ r.handleMode.toNat ∨ 3 ≤ r.lidMode.toNat ∨ 2 ≤ r.action.toNat) := by
    rw [decide_eq_decide, ne_eq, caseInRange_eq_iff]
    simp only [not_and_or, not_lt]
  have hpayload : (caseInRange r).bytes =
      [if 2 ≤ r.handleMode.toNat then 2 else r.handleMode, if 2 ≤ r.lidMode.toNat then 2 else r.lidMode, r.period,
       if r.action = 0 then 0 else 1] := by
    rw [← inputModeByte, ← inputModeByte, ← actionByte]
    rfl
  rw [exec_caseSetup ha, workCaseSetup_eq, ← hsetup, ← hclamped, ← hpayload]

end Sys2Proof.Machine
end

section
/-! SUPPORT. One sample of the Supply Monitor: the dwell counts by the reading's band, the supply state from each state
before, and the counts that each state tests next below their limits. -/

namespace Sys2Proof.Machine

/-! ## Dwell counts by the band of the reading (R155, R156) -/

section
variable {m : Supply}

/-- The cutoff range ends below the warn range (R155). -/
theorem cutoffLevel_lt_warnLevel (h : m.lawful) : m.cutoffLevel < m.warnLevel := by
  obtain ⟨-, -, hcutoff, -⟩ := h
  simp only [Supply.cutoffLevel, Supply.warnLevel]
  omega

variable (now : Clock) {rail : Int} (src : Bool)

theorem sampled_belowCutoff (hm : m.lawful) (h : railReading rail < m.cutoffLevel) :
    (m.sampled now rail src).warnDwell = min 10 (m.warnDwell + 1) ∧
      (m.sampled now rail src).cutoffDwell = min 3 (m.cutoffDwell + 1) := by
  have hwarn := h.trans (cutoffLevel_lt_warnLevel hm)
  rw [sampled_warnDwell, sampled_cutoffDwell, if_pos h, if_pos hwarn]
  exact ⟨rfl, rfl⟩

theorem sampled_aboveCutoff (h : m.cutoffLevel ≤ railReading rail) : (m.sampled now rail src).cutoffDwell = 0 := by
  rw [sampled_cutoffDwell, if_neg (Nat.not_lt.mpr h)]

theorem sampled_belowWarn (h : railReading rail < m.warnLevel) :
    (m.sampled now rail src).warnDwell = min 10 (m.warnDwell + 1) := by rw [sampled_warnDwell, if_pos h]

theorem sampled_aboveWarn (hm : m.lawful) (h : m.warnLevel ≤ railReading rail) :
    (m.sampled now rail src).warnDwell = 0 ∧ (m.sampled now rail src).cutoffDwell = 0 := by
  have hcutoff := (cutoffLevel_lt_warnLevel hm).le.trans h
  rw [sampled_warnDwell, if_neg (Nat.not_lt.mpr h)]
  exact ⟨rfl, sampled_aboveCutoff now src hcutoff⟩

end

/-! ## The supply state from each state before (R157, R158) -/

section
variable {m : Supply} (now : Clock) (rail : Int) (src : Bool)

theorem sampled_fromNone (h : m.state = .none) :
    (m.sampled now rail src).state =
      if railReading rail < m.cutoffLevel then .critical
      else if railReading rail < m.warnLevel then .low else .normal := by
  rw [sampled_state, Supply.nextState, show (m.withReading (railReading rail)).state = .none from h]
  rfl

theorem sampled_fromNormal (h : m.state = .normal) :
    (m.sampled now rail src).state =
      if (m.sampled now rail src).cutoffDwell = 3 then .critical
      else if (m.sampled now rail src).warnDwell = 10 then .low else .normal := by
  rw [sampled_state, Supply.nextState, show (m.withReading (railReading rail)).state = .normal from h,
    sampled_cutoffDwell, sampled_warnDwell]
  rfl

theorem sampled_fromLow (h : m.state = .low) :
    (m.sampled now rail src).state =
      if (m.sampled now rail src).cutoffDwell = 3 then .critical
      else if m.warnLevel + 20 ≤ railReading rail then .normal else .low := by
  rw [sampled_state, Supply.nextState, show (m.withReading (railReading rail)).state = .low from h,
    sampled_cutoffDwell]
  rfl

theorem sampled_fromCritical (h : m.state = .critical) :
    (m.sampled now rail src).state =
      if m.warnLevel + 20 ≤ railReading rail then .normal
      else if m.cutoffLevel + 20 ≤ railReading rail then .low else .critical := by
  rw [sampled_state, Supply.nextState, show (m.withReading (railReading rail)).state = .critical from h]
  rfl

end

/-! ## A sample keeps the law -/

section
variable {m : Supply} (now : Clock) (rail : Int) (src : Bool)

theorem sampled_warnDwell_le : (m.sampled now rail src).warnDwell ≤ 10 := by
  rw [sampled_warnDwell]
  split <;> omega

theorem sampled_cutoffDwell_le : (m.sampled now rail src).cutoffDwell ≤ 3 := by
  rw [sampled_cutoffDwell]
  split <;> omega

/-- No sample leaves the monitor in NONE (R158). -/
theorem sampled_ne_none : (m.sampled now rail src).state ≠ .none := by
  cases h : m.state with
  | none => rw [sampled_fromNone now rail src h]; (repeat' split) <;> simp
  | normal => rw [sampled_fromNormal now rail src h]; (repeat' split) <;> simp
  | low => rw [sampled_fromLow now rail src h]; (repeat' split) <;> simp
  | critical => rw [sampled_fromCritical now rail src h]; (repeat' split) <;> simp

/-- Below CRITICAL, readings under the cutoff level have not lasted for three samples (R157, R158). -/
theorem sampled_cutoffDwell_lt (hm : m.lawful) (hn : (m.sampled now rail src).state ≠ .critical) :
    (m.sampled now rail src).cutoffDwell < 3 := by
  refine Nat.lt_of_le_of_ne (sampled_cutoffDwell_le now rail src) fun h3 => hn ?_
  have hcutoff : railReading rail < m.cutoffLevel := by
    by_contra h
    simp [sampled_aboveCutoff now src (Nat.not_lt.mp h)] at h3
  have hlevels := cutoffLevel_lt_warnLevel hm
  cases h : m.state with
  | none => rw [sampled_fromNone now rail src h, if_pos hcutoff]
  | normal => rw [sampled_fromNormal now rail src h, if_pos h3]
  | low => rw [sampled_fromLow now rail src h, if_pos h3]
  | critical => rw [sampled_fromCritical now rail src h, if_neg (by omega), if_neg (by omega)]

/-- In NORMAL, readings under the warn level have not lasted for ten samples (R157, R158). -/
theorem sampled_warnDwell_lt (hn : (m.sampled now rail src).state = .normal) :
    (m.sampled now rail src).warnDwell < 10 := by
  refine Nat.lt_of_le_of_ne (sampled_warnDwell_le now rail src) fun h10 => ?_
  have hwarn : railReading rail < m.warnLevel := by
    by_contra h
    simp [sampled_warnDwell, h] at h10
  have hback : ¬ m.warnLevel + 20 ≤ railReading rail := by omega
  cases h : m.state with
  | none => rw [sampled_fromNone now rail src h, if_pos hwarn] at hn; split at hn <;> cases hn
  | normal => rw [sampled_fromNormal now rail src h, if_pos h10] at hn; split at hn <;> cases hn
  | low => rw [sampled_fromLow now rail src h, if_neg hback] at hn; split at hn <;> cases hn
  | critical => rw [sampled_fromCritical now rail src h, if_neg hback] at hn; split at hn <;> cases hn

theorem sampled_agree_le (hm : m.lawful) : (m.sampled now rail src).agree ≤ 2 := by
  obtain ⟨-, -, -, -, -, hagree, -⟩ := hm
  rw [sampled_agree]
  (repeat' split) <;> omega

theorem supplyLawful_sampled (hm : m.lawful) : (m.sampled now rail src).lawful := by
  have ⟨_, hwarn, hcutoff, _⟩ := hm
  refine ⟨?_, ?_, ?_, sampled_warnDwell_le .., sampled_cutoffDwell_le .., sampled_agree_le now rail src hm,
    fun h => absurd h (sampled_ne_none now rail src), fun h => ?_, fun h => ?_⟩
  · rw [sampled_reading]; exact railReading_le rail
  · rw [sampled_warnIndex]; exact hwarn
  · rw [sampled_cutoffIndex]; exact hcutoff
  · exact ⟨sampled_warnDwell_lt now rail src h, sampled_cutoffDwell_lt now rail src hm (by simp [h])⟩
  · exact sampled_cutoffDwell_lt now rail src hm (by simp [h])

end

/-- New settings keep or clear each count (R161). -/
theorem supplyLawful_withSettings {m : Supply} (hm : m.lawful) (r : RawPower) : (m.withSettings r).lawful := by
  obtain ⟨hreading, -, -, hwarn, hcutoff, hagree, hnone, hnormal, hlow⟩ := hm
  have keep (c : Prop) [Decidable c] (n : Nat) : (if c then n else 0) ≤ n := by split <;> omega
  have hw := keep (clamp 0 15 r.warnIndex.toNat = m.warnIndex) m.warnDwell
  have hc := keep (clamp 0 15 r.cutoffIndex.toNat = m.cutoffIndex) m.cutoffDwell
  refine ⟨hreading, clamp_le (by decide), clamp_le (by decide), hw.trans hwarn, hc.trans hcutoff, hagree, fun h => ?_,
    fun h => ?_, fun h => hc.trans_lt (hlow h)⟩
  · obtain ⟨hr, hw0, hc0⟩ := hnone h
    exact ⟨hr, Nat.le_zero.mp (hw0 ▸ hw), Nat.le_zero.mp (hc0 ▸ hc)⟩
  · exact ⟨hw.trans_lt (hnormal h).1, hc.trans_lt (hnormal h).2⟩

/-! ## The sample and its reports (R154, R159, R160) -/

theorem isMains_byte (src : Source) : packed src.isMains.toNat = if src = .mains then 1 else 0 := by
  cases src <;> rfl

/-- Settles O53, with the monitor that `Supply.sampled` gives. -/
theorem supplySamplesMoveTheState : Obligations.SupplySamplesMoveTheState := by
  intro rail srcHigh s hp hm m warn cutoff pin
  have hreading := sampled_reading m s.clock rail srcHigh
  refine ⟨m.sampled s.clock rail srcHigh, hreading.trans (railReading_eq rail), sampled_warnIndex ..,
    sampled_cutoffIndex .., ?_⟩
  rw [hreading]
  refine ⟨sampled_belowCutoff s.clock srcHigh hm,
    fun hc hw => ⟨sampled_belowWarn s.clock srcHigh hw, sampled_aboveCutoff s.clock srcHigh hc⟩,
    sampled_aboveWarn s.clock srcHigh hm, sampled_fromNone s.clock rail srcHigh,
    sampled_fromNormal s.clock rail srcHigh, sampled_fromLow s.clock rail srcHigh,
    sampled_fromCritical s.clock rail srcHigh, sampled_entryTime ..,
    fun (h : sourceOf srcHigh = m.source) => ?_, fun (h : sourceOf srcHigh ≠ m.source) ha => ?_,
    fun (h : sourceOf srcHigh ≠ m.source) ha => ?_, ?_⟩
  · rw [sampled_source, sampled_agree, if_pos h, if_pos h]
    exact ⟨rfl, rfl⟩
  · rw [sampled_source, sampled_agree, if_neg h, if_neg h, if_pos ha, if_pos ha]
    exact ⟨rfl, rfl⟩
  · rw [sampled_source, sampled_agree, if_neg h, if_neg h, if_neg (by omega), if_neg (by omega)]
    exact ⟨rfl, rfl⟩
  · rw [← isMains_byte, ← hreading]
    exact event_operating hp ..

end Sys2Proof.Machine
end

section
/-! SUPPORT. The Notice Queue stays lawful: the places that queued and pending notices take, and every post, filling,
fetch and new mask. -/

namespace Sys2Proof.Machine

/-! ## Keys by number (R197) -/

/-- The key of a number (R197). -/
def Key.ofNumber (n : Nat) : Key :=
  if h : n < 12 then .bay ⟨n, h⟩
  else
    match n with
    | 12 => .shock
    | 13 => .freefall
    | 14 => .fault
    | 15 => .supply
    | 16 => .supervision
    | 17 => .sensor
    | 18 => .motion
    | 19 => .tilt
    | 20 => .episode
    | _ => .input

theorem ofNumber_number (k : Key) : Key.ofNumber k.number = k := by
  cases k with
  | bay b => exact dif_pos b.isLt
  | _ => rfl

theorem number_injective {k l : Key} (h : k.number = l.number) : k = l := by
  rw [← ofNumber_number k, h, ofNumber_number]

/-! ## An element put in its place -/

section
variable {α : Type} {l : List α}

/-- A test that an element passes only when all before it pass fails on all from the first that fails. -/
theorem dropWhile_fails {p : α → Bool} (h : l.Pairwise fun a b => p b = true → p a = true) :
    ∀ x ∈ l.dropWhile p, p x = false := by
  induction l with
  | nil => simp
  | cons y ys ih =>
    obtain ⟨hy, hys⟩ := List.pairwise_cons.mp h
    by_cases hp : p y = true
    · simpa [hp] using ih hys
    · have hp' : p y = false := by simpa using hp
      have hall : ∀ x ∈ ys, p x = false := fun x hx => Bool.eq_false_iff.mpr fun hpx => hp (hy x hx hpx)
      simpa [hp'] using hall

theorem pairwise_put {R : α → α → Prop} {p : α → Bool} {e : α} (h : l.Pairwise R) (hf : ∀ x ∈ l.takeWhile p, R x e)
    (hb : ∀ x ∈ l.dropWhile p, R e x) : (l.takeWhile p ++ e :: l.dropWhile p).Pairwise R := by
  rw [← List.takeWhile_append_dropWhile (p := p) (l := l), List.pairwise_append] at h
  obtain ⟨hfront, hback, hcross⟩ := h
  refine List.pairwise_append.mpr ⟨hfront, List.pairwise_cons.mpr ⟨hb, hback⟩, fun x hx y hy => ?_⟩
  rcases List.mem_cons.mp hy with rfl | hy
  · exact hf x hx
  · exact hcross x hx y hy

theorem put_perm (p : α → Bool) (e : α) : (l.takeWhile p ++ e :: l.dropWhile p).Perm (e :: l) := by
  simpa [List.takeWhile_append_dropWhile] using List.perm_middle (a := e) (l₁ := l.takeWhile p) (l₂ := l.dropWhile p)

end

section
variable {l : List Notice} {e : Notice}

theorem placeEntry_perm (q : List Notice) (e : Notice) : (placeEntry q e).Perm (e :: q) := by
  unfold placeEntry
  split
  · exact put_perm ..
  · exact List.perm_append_singleton e q

theorem insertPending_perm (l : List Notice) (e : Notice) : (insertPending l e).Perm (e :: l) := put_perm ..

/-- Urgent entries stay ahead of routine ones (R200). -/
theorem placeEntry_urgentFirst {q : List Notice}
    (h : q.Pairwise fun a b => b.key.urgent = true → a.key.urgent = true) (e : Notice) :
    (placeEntry q e).Pairwise fun a b => b.key.urgent = true → a.key.urgent = true := by
  unfold placeEntry
  split
  next he =>
    have hfront : ∀ x ∈ q.takeWhile (·.key.urgent), x.key.urgent = true := fun _ => List.mem_takeWhile_imp
    exact pairwise_put h (fun x hx _ => hfront x hx) fun _ _ _ => he
  next he =>
    refine List.pairwise_append.mpr ⟨h, List.pairwise_singleton .., fun x _ y hy hu => ?_⟩
    rw [List.mem_singleton.mp hy] at hu
    exact absurd hu he

/-- Pending records stay in ascending key number. -/
theorem insertPending_sorted (h : l.Pairwise fun a b => a.key.number < b.key.number) (hk : ∀ x ∈ l, x.key ≠ e.key) :
    (insertPending l e).Pairwise fun a b => a.key.number < b.key.number := by
  refine pairwise_put h (fun x hx => by simpa using List.mem_takeWhile_imp hx) fun x hx => ?_
  have hle : ¬ x.key.number < e.key.number := by
    simpa using dropWhile_fails (p := fun x => decide (x.key.number < e.key.number))
      (h.imp fun hab hb => by simp only [decide_eq_true_eq] at hb ⊢; omega) x hx
  have hne : x.key.number ≠ e.key.number :=
    fun he => hk x ((List.dropWhile_sublist _).subset hx) (number_injective he)
  omega

end

/-! ## Queue and pending records by place -/

/-- What `Notices.lawful` says of queue and pending records, whatever the mask: all but that an unmasked key is pending
only behind a full queue, which a filling gives. -/
structure NoticesPlaced (queue pending : List Notice) : Prop where
  few : queue.length ≤ 8
  once : (queue.map (·.key)).Nodup
  sorted : pending.Pairwise fun a b => a.key.number < b.key.number
  apart : ∀ e ∈ queue, ∀ p ∈ pending, e.key ≠ p.key
  urgentFirst : queue.Pairwise fun a b => b.key.urgent = true → a.key.urgent = true
  counts : ∀ e ∈ queue ++ pending, 1 ≤ e.count ∧ e.count ≤ 255

/-- An unmasked key is pending only behind a full queue (R201). -/
def Notices.waitsBehindFull (n : Notices) : Prop := ∀ p ∈ n.pending, n.masked p.key = false → n.queue.length = 8

theorem noticesLawful_iff {n : Notices} : n.lawful ↔ NoticesPlaced n.queue n.pending ∧ n.waitsBehindFull :=
  ⟨fun ⟨few, once, sorted, apart, urgentFirst, counts, waits⟩ =>
    ⟨⟨few, once, sorted, apart, urgentFirst, counts⟩, waits⟩,
   fun ⟨⟨few, once, sorted, apart, urgentFirst, counts⟩, waits⟩ =>
    ⟨few, once, sorted, apart, urgentFirst, counts, waits⟩⟩

/-- Lists with the same keys are in order together. -/
theorem pairwise_of_keys {R : Key → Key → Prop} {l l' : List Notice} (hl : l'.map (·.key) = l.map (·.key))
    (h : l.Pairwise fun a b => R a.key b.key) : l'.Pairwise fun a b => R a.key b.key :=
  List.pairwise_map.mp (hl ▸ List.pairwise_map.mpr h)

namespace NoticesPlaced

variable {queue pending : List Notice} (h : NoticesPlaced queue pending)
include h

/-- The head entry leaves (R202). -/
theorem sublist {rest : List Notice} (hs : rest.Sublist queue) : NoticesPlaced rest pending where
  few := hs.length_le.trans h.few
  once := h.once.sublist (hs.map _)
  sorted := h.sorted
  apart e he := h.apart e (hs.subset he)
  urgentFirst := h.urgentFirst.sublist hs
  counts e he := h.counts e ((hs.append_right pending).subset he)

/-- A notice enters the queue, its key then pending no more (R200, R201). -/
theorem enter {rest : List Notice} {e : Notice} (hl : queue.length < 8) (hq : ∀ x ∈ queue, x.key ≠ e.key)
    (hs : rest.Sublist pending) (hr : ∀ x ∈ rest, x.key ≠ e.key) (hc : 1 ≤ e.count ∧ e.count ≤ 255) :
    NoticesPlaced (placeEntry queue e) rest := by
  have perm := placeEntry_perm queue e
  have mem {x : Notice} (hx : x ∈ placeEntry queue e) : x = e ∨ x ∈ queue := List.mem_cons.mp (perm.mem_iff.mp hx)
  exact {
    few := by rw [perm.length_eq]; exact hl
    once := by
      rw [(perm.map _).nodup_iff, List.map_cons, List.nodup_cons]
      exact ⟨fun hm => let ⟨x, hx, hxe⟩ := List.mem_map.mp hm; hq x hx hxe, h.once⟩
    sorted := h.sorted.sublist hs
    apart := fun x hx p hp => (mem hx).elim (fun hxe => hxe ▸ (hr p hp).symm) fun hx => h.apart x hx p (hs.subset hp)
    urgentFirst := placeEntry_urgentFirst h.urgentFirst e
    counts := fun x hx => (List.mem_append.mp hx).elim
      (fun hx => (mem hx).elim (fun hxe => hxe ▸ hc) fun hx => h.counts x (List.mem_append_left _ hx))
      fun hx => h.counts x (List.mem_append_right _ (hs.subset hx)) }

/-- A notice whose key was clear becomes pending (R199). -/
theorem wait {e : Notice} (hq : ∀ x ∈ queue, x.key ≠ e.key) (hp : ∀ x ∈ pending, x.key ≠ e.key)
    (hc : 1 ≤ e.count ∧ e.count ≤ 255) : NoticesPlaced queue (insertPending pending e) := by
  have mem {x : Notice} (hx : x ∈ insertPending pending e) : x = e ∨ x ∈ pending :=
    List.mem_cons.mp ((insertPending_perm pending e).mem_iff.mp hx)
  exact {
    few := h.few
    once := h.once
    sorted := insertPending_sorted h.sorted hp
    apart := fun x hx y hy => (mem hy).elim (fun hye => hye ▸ hq x hx) fun hy => h.apart x hx y hy
    urgentFirst := h.urgentFirst
    counts := fun x hx => (List.mem_append.mp hx).elim (fun hx => h.counts x (List.mem_append_left _ hx))
      fun hx => (mem hx).elim (fun hxe => hxe ▸ hc) fun hx => h.counts x (List.mem_append_right _ hx) }

/-- The same keys in the same places, with counts in range (R199). -/
theorem recount {queue' pending' : List Notice} (hq : queue'.map (·.key) = queue.map (·.key))
    (hp : pending'.map (·.key) = pending.map (·.key)) (hc : ∀ e ∈ queue' ++ pending', 1 ≤ e.count ∧ e.count ≤ 255) :
    NoticesPlaced queue' pending' where
  few := by rw [← List.length_map (·.key), hq, List.length_map]; exact h.few
  once := hq ▸ h.once
  sorted := pairwise_of_keys (R := fun a b => a.number < b.number) hp h.sorted
  apart x hx y hy := by
    obtain ⟨e, he, hex⟩ := List.mem_map.mp (hq ▸ List.mem_map_of_mem hx)
    obtain ⟨p, hp, hpy⟩ := List.mem_map.mp (hp ▸ List.mem_map_of_mem hy)
    rw [← hex, ← hpy]
    exact h.apart e he p hp
  urgentFirst := pairwise_of_keys (R := fun a b => b.urgent = true → a.urgent = true) hq h.urgentFirst
  counts := hc

end NoticesPlaced

/-! ## Further posts (R199) -/

section
variable (l : List Notice) (k : Key) (time : Clock) (p : NoticePayload)

@[simp] theorem coalesce_length : (coalesce l k time p).length = l.length := List.length_map ..

theorem coalesce_keys : (coalesce l k time p).map (·.key) = l.map (·.key) := by
  rw [coalesce, List.map_map]
  refine List.map_congr_left fun e _ => ?_
  simp only [Function.comp_apply]
  split <;> rfl

theorem coalesce_counts {l : List Notice} (h : ∀ e ∈ l, 1 ≤ e.count ∧ e.count ≤ 255) :
    ∀ e ∈ coalesce l k time p, 1 ≤ e.count ∧ e.count ≤ 255 := by
  intro e he
  obtain ⟨x, hx, rfl⟩ := List.mem_map.mp he
  split
  · simp only [Notice.again]; omega
  · exact h x hx

end

/-! ## Every operation keeps the law -/

section
variable {n : Notices}

/-- A post, by its four cases (R199). -/
theorem noticesLawful_posted (h : n.lawful) (k : Key) (time : Clock) (p : NoticePayload) :
    (n.posted k time p).lawful := by
  obtain ⟨placed, waits⟩ := noticesLawful_iff.mp h
  have hqueue : ∀ e ∈ n.queue, 1 ≤ e.count ∧ e.count ≤ 255 := fun e he => placed.counts e (List.mem_append_left _ he)
  have hpending : ∀ e ∈ n.pending, 1 ≤ e.count ∧ e.count ≤ 255 := fun e he =>
    placed.counts e (List.mem_append_right _ he)
  rw [noticesLawful_iff]
  cases hq : n.queued k with
  | true =>
    rw [posted_queued hq]
    refine ⟨placed.recount (coalesce_keys ..) rfl ?_, fun e he hm => ?_⟩
    · exact List.forall_mem_append.mpr ⟨coalesce_counts k time p hqueue, hpending⟩
    · exact (coalesce_length ..).trans (waits e he hm)
  | false =>
    cases hp : n.isPending k with
    | true =>
      rw [posted_pending hq hp]
      refine ⟨placed.recount rfl (coalesce_keys ..) ?_, fun e he hm => ?_⟩
      · exact List.forall_mem_append.mpr ⟨hqueue, coalesce_counts k time p hpending⟩
      · obtain ⟨x, hx, hxe⟩ := List.mem_map.mp (coalesce_keys n.pending k time p ▸ List.mem_map_of_mem he)
        exact waits x hx (hxe ▸ hm)
    | false =>
      have hq' := queued_eq_false.mp hq
      have hp' := isPending_eq_false.mp hp
      by_cases hfree : n.masked k = false ∧ n.queue.length < 8
      · obtain ⟨hm, hl⟩ := hfree
        rw [posted_placed hq hp hm hl]
        refine ⟨placed.enter hl hq' (.refl _) hp' (by simp), fun e he hm => ?_⟩
        exact absurd (waits e he hm) (Nat.ne_of_lt hl)
      · have hwait : n.masked k = true ∨ 8 ≤ n.queue.length := by
          simpa [or_iff_not_imp_left] using hfree
        rw [posted_waits hq hp hwait]
        refine ⟨placed.wait hq' hp' (by simp), fun e he hm => ?_⟩
        rcases List.mem_cons.mp ((insertPending_perm ..).mem_iff.mp he) with rfl | he
        · have hunmasked : n.masked k = false := hm
          exact Nat.le_antisymm placed.few (hwait.resolve_left (by simp [hunmasked]))
        · exact waits e he hm

/-- One notice after the other enters in its place (R201). -/
theorem noticesPlaced_filled (h : NoticesPlaced n.queue n.pending) : NoticesPlaced n.filled.queue n.filled.pending := by
  refine filled_induct (P := fun m => NoticesPlaced m.queue m.pending) n h fun m e hm hl he => ?_
  have hpending := nextEntering_mem he
  exact hm.enter hl (fun x hx => hm.apart x hx e hpending) List.filter_sublist
    (fun x hx => of_decide_eq_true (List.mem_filter.mp hx).2) (hm.counts e (List.mem_append_right _ hpending))

/-- The filling ends with the queue full or nothing unmasked pending (R201). -/
theorem filled_ends (n : Notices) :
    8 ≤ n.filled.queue.length ∨ ∀ e ∈ n.filled.pending, n.filled.masked e.key = true := by
  by_cases hover : 8 ≤ n.queue.length ∨ ∀ e ∈ n.pending, n.masked e.key = true
  · rw [filled_over hover]
    exact hover
  · obtain ⟨hfree, hwaits⟩ := not_or.mp hover
    obtain ⟨e, he⟩ := Option.ne_none_iff_exists'.mp (mt nextEntering_none.mp hwaits)
    have hless : (n.pending.filter fun x => decide (x.key ≠ e.key)).length < n.pending.length :=
      List.length_filter_lt_length_iff_exists.mpr ⟨e, nextEntering_mem he, by simp⟩
    rw [filled_step (Nat.not_le.mp hfree) he]
    exact filled_ends _
termination_by n.pending.length
decreasing_by exact hless

theorem noticesLawful_filled (h : NoticesPlaced n.queue n.pending) : n.filled.lawful := by
  have placed := noticesPlaced_filled h
  refine noticesLawful_iff.mpr ⟨placed, fun e he hm => ?_⟩
  refine Nat.le_antisymm placed.few ((filled_ends n).resolve_right fun hmasked => ?_)
  rw [hmasked e he] at hm
  cases hm

/-- NOTICE_FETCH (R202). -/
theorem noticesLawful_fetched (h : n.lawful) : n.fetched.2.lawful := by
  unfold Notices.fetched
  split
  next => exact h
  next e rest hqueue =>
    have placed := (noticesLawful_iff.mp h).1
    exact noticesLawful_filled (n := { n with queue := rest }) (placed.sublist (hqueue ▸ List.sublist_cons_self e rest))

/-- NOTICE_MASK (R201, R204). Without a filling, no kind was unmasked. -/
theorem noticesLawful_remasked (h : n.lawful) (mask : Half) : (n.remasked mask).lawful := by
  obtain ⟨placed, waits⟩ := noticesLawful_iff.mp h
  simp only [Notices.remasked]
  split
  next hnone =>
    refine noticesLawful_iff.mpr ⟨placed, fun e he hm => waits e he ?_⟩
    have hbit : (n.mask &&& ~~~mask.extractLsb' 0 11).getLsbD e.key.kind.val = false := by simp [hnone]
    have hnew : (mask.extractLsb' 0 11).getLsbD e.key.kind.val = false := hm
    have hkind := e.key.kind.isLt
    rw [BitVec.getLsbD_and, BitVec.getLsbD_not, hnew] at hbit
    simpa [Notices.masked, hkind] using hbit
  next => exact noticesLawful_filled placed

end

end Sys2Proof.Machine
end

section
/-! SUPPORT. Every step keeps the Supply Monitor, the Notice Queue and the Fault Record lawful: each command as work
that keeps the three. -/

namespace Sys2Proof.Machine

theorem reset_faults_lawful : FaultRecord.reset.lawful := by rintro ⟨⟩

/-- From `s` to `t` Supply Monitor, Notice Queue and Fault Record stay lawful. -/
structure RecordsKept (s t : State) : Prop where
  supply : s.supply.lawful → t.supply.lawful
  notices : s.notices.lawful → t.notices.lawful
  faults : s.faults.lawful → t.faults.lawful

namespace RecordsKept

section
variable {s t u : State}

theorem refl (s : State) : RecordsKept s s := ⟨id, id, id⟩

theorem trans (h : RecordsKept s t) (h' : RecordsKept t u) : RecordsKept s u :=
  ⟨h'.supply ∘ h.supply, h'.notices ∘ h.notices, h'.faults ∘ h.faults⟩

/-- Work of other blocks. -/
theorem frame (hs : t.supply = s.supply) (hn : t.notices = s.notices) (hf : t.faults = s.faults) : RecordsKept s t :=
  ⟨fun h => hs ▸ h, fun h => hn ▸ h, fun h => hf ▸ h⟩

theorem of_bay (w : BayWork s t) : RecordsKept s t := frame w.supply w.notices w.faults

theorem of_policy (w : PolicyWork s t) : RecordsKept s t := by
  obtain ⟨_, _, rfl⟩ := w
  exact frame rfl rfl rfl

theorem of_motion (w : MotionWork s t) : RecordsKept s t := by
  obtain ⟨_, _, rfl⟩ := w
  exact frame rfl rfl rfl

theorem setSupply (s : State) {m : Supply} (h : s.supply.lawful → m.lawful) : RecordsKept s (s.setSupply m) :=
  ⟨h, id, id⟩

theorem setNotices (s : State) {n : Notices} (h : s.notices.lawful → n.lawful) : RecordsKept s (s.setNotices n) :=
  ⟨id, h, id⟩

theorem setFaults (s : State) {f : FaultRecord} (h : f.lawful) : RecordsKept s (s.setFaults f) := ⟨id, id, fun _ => h⟩

theorem taken (s : State) (c : Instr) : RecordsKept s (s.taken c) := frame rfl rfl rfl
theorem handOn (s : State) (l : List Instr) : RecordsKept s (s.handOn l) := frame rfl rfl rfl
theorem setLink (s : State) (l : Link) : RecordsKept s (s.setLink l) := frame rfl rfl rfl

end

/-! ## Samples, posts, captures -/

section
variable (s : State)

theorem takeSupplySample (rail : Int) (srcHigh : Bool) : RecordsKept s (takeSupplySample rail srcHigh s) :=
  (setSupply s (supplyLawful_sampled s.clock rail srcHigh)).trans (handOn ..)

theorem takePost (k : Key) (time : Clock) (p : NoticePayload) : RecordsKept s (takePost k time p s) :=
  setNotices s fun h => noticesLawful_posted h k time p

/-- A capture sets more when a record is held, and else stores one (R207). -/
theorem takeCapture (c : Capture) : RecordsKept s (takeCapture c s) := by
  by_cases h : s.faults.record = none
  · rw [takeCapture_stored h]
    exact (setFaults s fun _ => rfl).trans (takePost ..)
  · rw [takeCapture_frozen h]
    exact setFaults s fun _ => Option.isSome_iff_ne_none.mpr h

/-! ## Requests and the line -/

theorem carryOut (r : Request) : RecordsKept s (carryOut r s).2 := by
  cases r with
  | baySetup bay d =>
    simp only [Machine.carryOut, workBaySetup]
    split
    · exact refl s
    · split
      · exact (of_bay ((BayWork.mapBay ..).trans (.applyAccess ..))).trans (of_policy (.policyTable ..))
      · exact refl s
  | bayAim bays target priority =>
    simp only [Machine.carryOut, workBayAim]
    split
    · exact refl s
    · exact of_bay (.aimAll ..)
  | bayClear bays =>
    simp only [Machine.carryOut, workBayClear]
    split
    · exact refl s
    · exact of_bay (.clearAll ..)
  | bayQuery bay => simp only [Machine.carryOut, workBayQuery]; split <;> exact refl s
  | bayDescribe bay => simp only [Machine.carryOut, workBayDescribe]; split <;> exact refl s
  | motionSetup r => exact of_motion (.motionSetup ..)
  | powerSetup r =>
    have set : RecordsKept s ((s.setArbiter (s.arbiter.withSettings r)).setSupply (s.supply.withSettings r)) :=
      (of_bay (.setArbiter ..)).trans (setSupply _ fun h => supplyLawful_withSettings h r)
    exact set.trans (of_bay (.evaluate _))
  | powerQuery =>
    simp only [Machine.carryOut, workPowerQuery]
    split
    · exact frame rfl rfl rfl
    · exact refl s
  | caseSetup r => exact of_policy (.caseSetup ..)
  | noticeMask mask => exact setNotices s fun h => noticesLawful_remasked h mask
  | noticeFetch =>
    simp only [Machine.carryOut, workNoticeFetch]
    split
    · exact refl s
    · exact setNotices s noticesLawful_fetched
  | faultRead =>
    simp only [Machine.carryOut, workFaultRead]
    split
    · exact refl s
    · exact setFaults s reset_faults_lawful
  | ident | restart | motionQuery | trace | episodes | caseQuery | noticeStatus => exact refl s

theorem dispatch (item : Item) : RecordsKept s (s.dispatch item) := by
  cases item with
  | request r => exact ((of_policy (.acceptedRequest s)).trans (carryOut _ r)).trans (setLink ..)
  | badSize kind => exact (of_policy (.acceptedRequest s)).trans (setLink ..)
  | linkError code detail => exact setLink ..

theorem itemMade (item : Item) : RecordsKept s (s.itemMade item) := by
  unfold State.itemMade
  split
  · exact dispatch s item
  · split <;> exact setLink ..

theorem receive (c : Byte) : RecordsKept s (s.receive c) := by
  have hunts : ∀ item, RecordsKept s (s.hunts.itemMade item) := fun item => (setLink s _).trans (itemMade s.hunts item)
  unfold State.receive
  split <;> split
  · exact setLink ..
  · exact refl s
  · exact setLink ..
  · exact hunts _
  · exact setLink ..
  · split <;> exact hunts _

theorem takeCharacter (data : Byte) (stopHigh : Bool) : RecordsKept s (takeCharacter data stopHigh s) := by
  unfold Machine.takeCharacter
  split
  · exact (setLink s _).trans (receive _ data)
  · exact refl s

theorem takeGap : RecordsKept s (takeGap s) := by
  unfold Machine.takeGap
  split
  · exact (setLink s _).trans (itemMade s.hunts _)
  · exact refl s

/-- The warm restart empties queue and record (R206, R210). -/
theorem warmRestart : RecordsKept s s.warmRestart := by
  simp only [State.warmRestart]
  refine trans ?_ (of_policy (.restartSupervision _))
  exact ⟨id, fun _ => reset_notices_lawful, fun _ => reset_faults_lawful⟩

theorem takeEndOfReply : RecordsKept s (takeEndOfReply s) := by
  unfold Machine.takeEndOfReply
  split
  · exact refl s
  · exact warmRestart s
  · split
    · exact setLink ..
    · exact (setLink s _).trans (dispatch _ _)

/-! ## Supervision, reset, time -/

theorem takeLapse : RecordsKept s (takeLapse s) := by
  unfold Machine.takeLapse
  split
  · refine trans (frame ?_ ?_ ?_) (of_policy (.reevaluate _)) <;> rfl
  · exact refl s

theorem fullReset (phase : Phase) (cause : ResetCause) (inputs : Inputs) (drawn : Nat) (pending : List Instr) :
    RecordsKept s (.fullReset phase cause inputs drawn pending) :=
  ⟨fun _ => reset_supply_lawful, fun _ => reset_notices_lawful, fun _ => reset_faults_lawful⟩

theorem takeResetRelease : RecordsKept s (takeResetRelease s) := by
  unfold Machine.takeResetRelease
  split
  · exact fullReset ..
  · exact refl s
  · exact refl s

theorem takeStartUpEnd : RecordsKept s (takeStartUpEnd s) := by
  unfold Machine.takeStartUpEnd
  split
  · exact refl s
  · split
    · exact frame rfl rfl rfl
    · exact refl s
  · exact refl s

/-- A millisecond hands the supply sample on; it is a command of its own. -/
theorem tick : RecordsKept s s.tick := by
  unfold State.tick
  split <;> exact frame rfl rfl rfl

/-! ## Every command and every step -/

variable {s} {t : State}

theorem event {c : Instr} {f : State → State} (h : s.event c f = .next t)
    (hf : RecordsKept (s.taken c) (f (s.taken c))) : RecordsKept s t := by
  rcases event_next h with ⟨-, rfl⟩ | ⟨-, rfl⟩
  · exact (taken s c).trans hf
  · exact taken s c

theorem exec (c : Instr) (h : exec c s = .next t) : RecordsKept s t := by
  cases c with
  | ident | restart | baySetup | bayAim | bayClear | bayQuery | bayDescribe | motionSetup | motionQuery | trace
  | episodes | powerSetup | powerQuery | caseSetup | caseQuery | noticeMask | noticeFetch | noticeStatus | faultRead =>
    exact event h (itemMade ..)
  | characterReception => exact event h (takeCharacter ..)
  | gapError => exact event h (takeGap _)
  | endOfReply => exact event h (takeEndOfReply _)
  | powerOn | brownout | pinReset => cases h; exact fullReset ..
  | resetRelease => cases h; exact (taken s _).trans (takeResetRelease _)
  | startUpIntervalEnd => cases h; exact (taken s _).trans (takeStartUpEnd _)
  | unseat => exact event h (of_bay (.takeUnseat ..))
  | reseat => exact event h (of_bay (.takeReseat ..))
  | prkRelease => exact event h (of_bay (.takePrkRelease ..))
  | prkAssertion => exact event h (of_bay (.takePrkAssertion ..))
  | unloadGuardExpiry => exact event h (of_bay (.takeGuardExpiry ..))
  | unloadCompletion => exact event h (of_bay (.takeCompletionTest ..))
  | tachEdge => exact event h (of_bay (.takeTachEdge ..))
  | rampStep => exact event h (of_bay (.takeRampStep ..))
  | spinupTimeout => exact event h (of_bay (.takeSpinupTimeout ..))
  | settleTimeout => exact event h (of_bay (.takeSettleTimeout ..))
  | silenceTimerExpiry => exact event h (of_bay (.takeSilence ..))
  | tachQuiet => exact event h (of_bay (.takeTachQuiet ..))
  | stopTimeout => exact event h (of_bay (.takeStopTimeout ..))
  | loadTimeout => exact event h (of_bay (.takeLoadTimeout ..))
  | unloadTimeout => exact event h (of_bay (.takeUnloadTimeout ..))
  | forcedUnloadOrder => exact event h (of_bay (.takeForcedUnload ..))
  | stopOrder => exact event h (of_bay (.takeStopOrder ..))
  | stopOrderLift => exact event h (of_bay (.takeStopOrderLift ..))
  | loadPermissionReport => exact event h (of_bay (.takeLoadPermission ..))
  | spinGateReport => exact event h (of_bay (.takeSpinGate ..))
  | sourceReport => exact event h (of_bay (.takeSource ..))
  | spacingTimerExpiry => exact event h (of_bay (.takeSpacingExpiry _))
  | pwmPeriodBoundary => exact event h (of_bay (.takePwmBoundary ..))
  | drdyEdge => exact event h (of_motion (.takeDrdy _))
  | identityReadComplete => exact event h (of_motion (.takeIdentity ..))
  | setupWindowExpiry => exact event h (of_motion (.takeWindowExpiry _))
  | retryTimerExpiry => exact event h (of_motion (.takeRetryExpiry _))
  | drdyWatchExpiry => exact event h (of_motion (.takeWatchExpiry _))
  | sampleArrival => exact event h (of_motion (.takeArrival ..))
  | quietTimerExpiry => exact event h (of_motion (.takeQuietExpiry _))
  | quietRestartRequest => exact event h (of_motion (.takeQuietRestart _))
  | unloadReport => exact event h (of_motion (.takeUnloadReport _))
  | strandingReport => exact event h (of_motion (.takeStrandingReport _))
  | motionVerdictHandoff => exact event h (of_policy (.takeVerdict ..))
  | supplyStateReport => exact event h (of_policy (.takeSupplyState ..))
  | caseInputAssertion => exact event h (of_policy (.takeAssertion ..))
  | caseInputRelease => exact event h (of_policy (.takeRelease ..))
  | supervisionLapse => exact event h (takeLapse _)
  | supplySample => exact event h (takeSupplySample ..)
  | faultCapture => exact event h (takeCapture ..)
  | noticePost => exact event h (takePost ..)

theorem step (h : step s = .next t) : RecordsKept s t := by
  unfold Machine.step at h
  split at h
  next c rest _ => exact trans (t := { s with pending := rest }) (frame rfl rfl rfl) (exec c h)
  next =>
    split at h
    next => exact exec _ h
    next => cases h; exact tick s

end

end RecordsKept

/-- Settles O57: the monitor moves by samples and settings, the queue by posts, fetches and masks, the record by
captures and reads; a full reset clears the three, a warm restart queue and record. -/
theorem stepsKeepSupplyAndRecordsLawful : Obligations.StepsKeepSupplyAndRecordsLawful := by
  intro s t h
  have kept := RecordsKept.step h
  exact ⟨kept.supply, kept.notices, kept.faults⟩

end Sys2Proof.Machine
end

section
/-! SUPPORT. What every command leaves of time, phase, pins and queue, and that the Link Port stays lawful (R169 to
R176, R182, R183): a command is Reset Control's own, or an event whose effect keeps all of these. -/

namespace Sys2Proof.Machine

/-- The commands that Reset Control takes in any phase (log entry 13). -/
def ofResetControl (c : Instr) : Bool :=
  match c with
  | .powerOn | .brownout | .pinReset | .resetRelease | .startUpIntervalEnd => true
  | _ => false

theorem ofResetControl_iff {c : Instr} : ofResetControl c = true ↔
    c = .powerOn ∨ c = .brownout ∨ c = .pinReset ∨ c = .resetRelease ∨ c = .startUpIntervalEnd := by
  cases c <;> simp [ofResetControl]

/-! ## The Link Port by its two sides -/

/-- The gap timer runs in a frame alone, and in BODY the running sum is that of the bytes received (R169 to R173). -/
def ReceiverLawful (rx : Receiver) (gap : Timer) : Prop :=
  (rx = .hunt ↔ gap = .idle) ∧
  ∀ len got sum, rx = .body len got sum →
    1 ≤ len.toNat ∧ len.toNat ≤ 62 ∧ got.length ≤ len.toNat ∧ sum = byteSum (len :: got)

/-- The slot is filled only while a reply is sent, and a reply is a correct frame (R168, R169, R175, R176). -/
def SenderLawful (tx : Transmitter) (held : Option Item) : Prop :=
  (held.isSome → tx ≠ .idle) ∧ ∀ f restart, tx = .sending f restart → correctFrame f

theorem linkLawful_iff {l : Link} : l.lawful ↔ ReceiverLawful l.rx l.gap ∧ SenderLawful l.tx l.held :=
  ⟨fun ⟨gap, body, slot, reply⟩ => ⟨⟨gap, body⟩, slot, reply⟩,
   fun ⟨⟨gap, body⟩, slot, reply⟩ => ⟨gap, body, slot, reply⟩⟩

theorem receiverLawful_hunt : ReceiverLawful .hunt .idle := ⟨by simp, by simp⟩

theorem receiverLawful_length (now : Clock) (ms : Nat) : ReceiverLawful .length (.after now ms) := ⟨by simp, by simp⟩

/-- LEN begins the body, and the running sum with it (R171). -/
theorem receiverLawful_begin {len : Byte} (h1 : 1 ≤ len.toNat) (h62 : len.toNat ≤ 62) (now : Clock) (ms : Nat) :
    ReceiverLawful (.body len [] len) (.after now ms) := by
  refine ⟨by simp, ?_⟩
  rintro _ _ _ ⟨⟩
  exact ⟨h1, h62, Nat.zero_le _, by simp [byteSum]⟩

/-- A further byte of the body joins the buffer and the sum (R172). -/
theorem receiverLawful_more {len c sum : Byte} {got : List Byte} {gap : Timer}
    (h : ReceiverLawful (.body len got sum) gap) (hl : got.length < len.toNat) (now : Clock) (ms : Nat) :
    ReceiverLawful (.body len (got ++ [c]) (sum + c)) (.after now ms) := by
  obtain ⟨h1, h62, -, rfl⟩ := h.2 len got sum rfl
  refine ⟨by simp, ?_⟩
  rintro _ _ _ ⟨⟩
  exact ⟨h1, h62, by simpa using hl, by simp [byteSum, byteSum_append, BitVec.add_assoc]⟩

theorem senderLawful_idle : SenderLawful .idle none := ⟨by simp, by simp⟩

theorem correctFrame_frame (body : List Byte) : correctFrame (Sys2Proof.frame body) :=
  ⟨rfl, byteSum_frame body, by rw [frame_length, Nat.add_sub_cancel]; rfl⟩

theorem senderLawful_frame (body : List Byte) (restart : Bool) (held : Option Item) :
    SenderLawful (.sending (Sys2Proof.frame body) restart) held := by
  refine ⟨fun _ => by simp, ?_⟩
  rintro _ _ ⟨⟩
  exact correctFrame_frame body

/-! ## What the effect of a command keeps -/

/-- From `s` to `t` Case Clock, phase, pins and queue stand, and the Link Port stays lawful. -/
structure CommandKept (s t : State) : Prop where
  clock : t.clock = s.clock
  phase : t.phase = s.phase
  inputs : t.inputs = s.inputs
  pending : t.pending = s.pending
  link : s.link.lawful → t.link.lawful

namespace CommandKept

section
variable {s t u : State}

theorem refl (s : State) : CommandKept s s := ⟨rfl, rfl, rfl, rfl, id⟩

theorem trans (h : CommandKept s t) (h' : CommandKept t u) : CommandKept s u where
  clock := h'.clock.trans h.clock
  phase := h'.phase.trans h.phase
  inputs := h'.inputs.trans h.inputs
  pending := h'.pending.trans h.pending
  link := h'.link ∘ h.link

/-- Work of the blocks leaves the Link Port as it is. -/
theorem of_work (w : WorkFrame s t) : CommandKept s t := by
  obtain ⟨clock, phase, -, link, inputs, pending⟩ := w
  exact ⟨clock, phase, inputs, pending, fun h => link ▸ h⟩

theorem of_bay (w : BayWork s t) : CommandKept s t := of_work (.of_bay w)
theorem of_policy (w : PolicyWork s t) : CommandKept s t := of_work (.of_policy w)
theorem of_motion (w : MotionWork s t) : CommandKept s t := of_work (.of_motion w)

theorem setLink (s : State) {l : Link} (h : s.link.lawful → l.lawful) : CommandKept s (s.setLink l) :=
  ⟨rfl, rfl, rfl, rfl, h⟩

/-- The receiver moves, the sending side stands. -/
theorem setReceiver (s : State) {rx : Receiver} {gap : Timer} (h : s.link.lawful → ReceiverLawful rx gap) :
    CommandKept s (s.setLink { s.link with rx := rx, gap := gap }) :=
  setLink s fun hl => linkLawful_iff.mpr ⟨h hl, (linkLawful_iff.mp hl).2⟩

/-- The sending side moves, the receiver stands. -/
theorem setSender (s : State) {tx : Transmitter} {held : Option Item} {overrun lapseSeen : Bool}
    (h : s.link.lawful → SenderLawful tx held) :
    CommandKept s
      (s.setLink { s.link with tx := tx, held := held, overrun := overrun, lapseSeen := lapseSeen }) :=
  setLink s fun hl => linkLawful_iff.mpr ⟨(linkLawful_iff.mp hl).1, h hl⟩

end

section
variable (s : State)

/-! ## Replies and items (R175 to R178) -/

theorem sendReply (kind : Byte) (result : Result) (clamped : Bool) (payload : List Byte) (restart : Bool) :
    CommandKept s (s.sendReply kind result clamped payload restart) :=
  setSender s fun _ => senderLawful_frame ..

theorem dispatch (item : Item) : CommandKept s (s.dispatch item) := by
  cases item with
  | request r => exact ((of_policy (.acceptedRequest s)).trans (of_work (.carryOut r _))).trans (sendReply ..)
  | badSize kind => exact (of_policy (.acceptedRequest s)).trans (sendReply ..)
  | linkError code detail => exact sendReply ..

theorem itemMade (item : Item) : CommandKept s (s.itemMade item) := by
  by_cases htx : s.link.tx = .idle
  · rw [itemMade_idle htx]
    exact dispatch s item
  · have sender (h : s.link.lawful) := (linkLawful_iff.mp h).2
    by_cases hheld : s.link.held = none
    · rw [itemMade_held htx hheld]
      exact setSender s fun h => ⟨fun _ => htx, (sender h).2⟩
    · rw [itemMade_overrun htx hheld]
      exact setSender s sender

/-! ## The receiver (R167 to R173) -/

theorem hunts_itemMade (item : Item) : CommandKept s (s.hunts.itemMade item) :=
  (setReceiver s fun _ => receiverLawful_hunt).trans (itemMade s.hunts item)

theorem receive (c : Byte) : CommandKept s (s.receive c) := by
  unfold State.receive
  split
  next =>
    split
    · exact setReceiver s fun _ => receiverLawful_length ..
    · exact refl s
  next =>
    split
    next hlen =>
      simp only [Bool.and_eq_true, decide_eq_true_eq] at hlen
      exact setReceiver s fun _ => receiverLawful_begin hlen.1 hlen.2 ..
    next => exact hunts_itemMade ..
  next len got sum hrx =>
    split
    next hmore => exact setReceiver s fun h => receiverLawful_more (hrx ▸ (linkLawful_iff.mp h).1) hmore ..
    next => split <;> exact hunts_itemMade ..

theorem takeCharacter (data : Byte) (stopHigh : Bool) : CommandKept s (takeCharacter data stopHigh s) := by
  unfold Machine.takeCharacter
  split
  · refine trans (setLink s ?_) (receive _ data)
    exact id
  · exact refl s

theorem takeGap : CommandKept s (takeGap s) := by
  unfold Machine.takeGap
  split
  · exact hunts_itemMade ..
  · exact refl s

/-! ## End of reply, lapse, records -/

theorem warmRestart : CommandKept s s.warmRestart := by
  simp only [State.warmRestart]
  refine trans ?_ (of_policy (.restartSupervision _))
  exact ⟨rfl, rfl, rfl, rfl, fun _ => linkLawful_iff.mpr ⟨receiverLawful_hunt, senderLawful_idle⟩⟩

theorem takeEndOfReply : CommandKept s (takeEndOfReply s) := by
  unfold Machine.takeEndOfReply
  split
  next => exact refl s
  next => exact warmRestart s
  next =>
    split
    next hheld => exact setSender s fun _ => hheld ▸ senderLawful_idle
    next => exact (setSender s fun _ => senderLawful_idle).trans (dispatch ..)

theorem takeLapse : CommandKept s (takeLapse s) := by
  unfold Machine.takeLapse
  split
  · refine trans ?_ (of_policy (.reevaluate _))
    exact ⟨rfl, rfl, rfl, rfl, id⟩
  · exact refl s

theorem takeCapture (c : Capture) : CommandKept s (takeCapture c s) := by
  unfold Machine.takeCapture
  split <;> exact ⟨rfl, rfl, rfl, rfl, id⟩

theorem takeSupplySample (rail : Int) (srcHigh : Bool) : CommandKept s (takeSupplySample rail srcHigh s) :=
  ⟨rfl, rfl, rfl, rfl, id⟩

end
end CommandKept

/-! ## Every command -/

/-- Every command but Reset Control's own is an event, and its effect keeps time, phase, pins and queue, and the Link
Port lawful. -/
theorem exec_event {c : Instr} (hc : ofResetControl c = false) (s : State) :
    ∃ f, exec c s = s.event c f ∧ ∀ u, CommandKept u (f u) := by
  cases c with
  | ident | restart | baySetup | bayAim | bayClear | bayQuery | bayDescribe | motionSetup | motionQuery | trace
  | episodes | powerSetup | powerQuery | caseSetup | caseQuery | noticeMask | noticeFetch | noticeStatus | faultRead =>
    exact ⟨_, rfl, fun u => .itemMade u _⟩
  | powerOn | brownout | pinReset | resetRelease | startUpIntervalEnd => cases hc
  | characterReception => exact ⟨_, rfl, fun u => .takeCharacter u ..⟩
  | gapError => exact ⟨_, rfl, .takeGap⟩
  | endOfReply => exact ⟨_, rfl, .takeEndOfReply⟩
  | unseat => exact ⟨_, rfl, fun _ => .of_bay (.takeUnseat ..)⟩
  | reseat => exact ⟨_, rfl, fun _ => .of_bay (.takeReseat ..)⟩
  | prkRelease => exact ⟨_, rfl, fun _ => .of_bay (.takePrkRelease ..)⟩
  | prkAssertion => exact ⟨_, rfl, fun _ => .of_bay (.takePrkAssertion ..)⟩
  | unloadGuardExpiry => exact ⟨_, rfl, fun _ => .of_bay (.takeGuardExpiry ..)⟩
  | unloadCompletion => exact ⟨_, rfl, fun _ => .of_bay (.takeCompletionTest ..)⟩
  | tachEdge => exact ⟨_, rfl, fun _ => .of_bay (.takeTachEdge ..)⟩
  | rampStep => exact ⟨_, rfl, fun _ => .of_bay (.takeRampStep ..)⟩
  | spinupTimeout => exact ⟨_, rfl, fun _ => .of_bay (.takeSpinupTimeout ..)⟩
  | settleTimeout => exact ⟨_, rfl, fun _ => .of_bay (.takeSettleTimeout ..)⟩
  | silenceTimerExpiry => exact ⟨_, rfl, fun _ => .of_bay (.takeSilence ..)⟩
  | tachQuiet => exact ⟨_, rfl, fun _ => .of_bay (.takeTachQuiet ..)⟩
  | stopTimeout => exact ⟨_, rfl, fun _ => .of_bay (.takeStopTimeout ..)⟩
  | loadTimeout => exact ⟨_, rfl, fun _ => .of_bay (.takeLoadTimeout ..)⟩
  | unloadTimeout => exact ⟨_, rfl, fun _ => .of_bay (.takeUnloadTimeout ..)⟩
  | forcedUnloadOrder => exact ⟨_, rfl, fun _ => .of_bay (.takeForcedUnload ..)⟩
  | stopOrder => exact ⟨_, rfl, fun _ => .of_bay (.takeStopOrder ..)⟩
  | stopOrderLift => exact ⟨_, rfl, fun _ => .of_bay (.takeStopOrderLift ..)⟩
  | loadPermissionReport => exact ⟨_, rfl, fun _ => .of_bay (.takeLoadPermission ..)⟩
  | spinGateReport => exact ⟨_, rfl, fun _ => .of_bay (.takeSpinGate ..)⟩
  | sourceReport => exact ⟨_, rfl, fun _ => .of_bay (.takeSource ..)⟩
  | spacingTimerExpiry => exact ⟨_, rfl, fun _ => .of_bay (.takeSpacingExpiry _)⟩
  | pwmPeriodBoundary => exact ⟨_, rfl, fun _ => .of_bay (.takePwmBoundary ..)⟩
  | drdyEdge => exact ⟨_, rfl, fun _ => .of_motion (.takeDrdy _)⟩
  | identityReadComplete => exact ⟨_, rfl, fun _ => .of_motion (.takeIdentity ..)⟩
  | setupWindowExpiry => exact ⟨_, rfl, fun _ => .of_motion (.takeWindowExpiry _)⟩
  | retryTimerExpiry => exact ⟨_, rfl, fun _ => .of_motion (.takeRetryExpiry _)⟩
  | drdyWatchExpiry => exact ⟨_, rfl, fun _ => .of_motion (.takeWatchExpiry _)⟩
  | sampleArrival => exact ⟨_, rfl, fun _ => .of_motion (.takeArrival ..)⟩
  | quietTimerExpiry => exact ⟨_, rfl, fun _ => .of_motion (.takeQuietExpiry _)⟩
  | quietRestartRequest => exact ⟨_, rfl, fun _ => .of_motion (.takeQuietRestart _)⟩
  | unloadReport => exact ⟨_, rfl, fun _ => .of_motion (.takeUnloadReport _)⟩
  | strandingReport => exact ⟨_, rfl, fun _ => .of_motion (.takeStrandingReport _)⟩
  | motionVerdictHandoff => exact ⟨_, rfl, fun _ => .of_policy (.takeVerdict ..)⟩
  | supplyStateReport => exact ⟨_, rfl, fun _ => .of_policy (.takeSupplyState ..)⟩
  | caseInputAssertion => exact ⟨_, rfl, fun _ => .of_policy (.takeAssertion ..)⟩
  | caseInputRelease => exact ⟨_, rfl, fun _ => .of_policy (.takeRelease ..)⟩
  | supervisionLapse => exact ⟨_, rfl, .takeLapse⟩
  | supplySample => exact ⟨_, rfl, fun u => .takeSupplySample u ..⟩
  | faultCapture => exact ⟨_, rfl, fun u => .takeCapture u _⟩
  | noticePost => exact ⟨_, rfl, fun _ => .of_work (.setNotices ..)⟩

/-- An event with such an effect, in operation and before. -/
theorem CommandKept.of_event {s t : State} {c : Instr} {f : State → State} (hf : ∀ u, CommandKept u (f u))
    (h : s.event c f = .next t) : CommandKept s t := by
  have taken : CommandKept s (s.taken c) := ⟨rfl, rfl, rfl, rfl, id⟩
  rcases event_next h with ⟨-, rfl⟩ | ⟨-, rfl⟩
  · exact taken.trans (hf _)
  · exact taken

/-- Whatever is kept by every command and by one millisecond is kept by every step, which takes a command from the
queue, a report in flight, or the millisecond. -/
theorem step_keeps {P : State → Prop} (queue : ∀ (s : State) (rest : List Instr), P s → P { s with pending := rest })
    (command : ∀ (c : Instr) (s t : State), P s → exec c s = .next t → P t) (tick : ∀ s, P s → P s.tick)
    {s t : State} (hs : P s) (h : step s = .next t) : P t := by
  unfold step at h
  split at h
  next c rest _ => exact command c _ t (queue s rest hs) h
  next =>
    split at h
    next c _ _ => exact command c s t hs h
    next => cases h; exact tick s hs

/-! ## Time, phase, pins and queue (R182) -/

theorem takeStartUpEnd_frame (s : State) :
    (takeStartUpEnd s).clock = s.clock ∧ (takeStartUpEnd s).inputs = s.inputs ∧
      (takeStartUpEnd s).pending = s.pending := by
  unfold takeStartUpEnd
  split
  · exact ⟨rfl, rfl, rfl⟩
  · split <;> exact ⟨rfl, rfl, rfl⟩
  · exact ⟨rfl, rfl, rfl⟩

theorem takeResetRelease_frame (s : State) :
    (takeResetRelease s).inputs = s.inputs ∧ (takeResetRelease s).pending = s.pending := by
  unfold takeResetRelease
  split <;> exact ⟨rfl, rfl⟩

/-- Settles O3: an event answers a next state and keeps all four; Reset Control's own commands keep pins and queue. -/
theorem commandsLeaveQueuePinsAndClock : Obligations.CommandsLeaveQueuePinsAndClock := by
  intro c s
  cases hc : ofResetControl c with
  | false =>
    obtain ⟨f, hexec, hf⟩ := exec_event hc s
    obtain ⟨t, ht⟩ : ∃ t, s.event c f = .next t := ⟨_, rfl⟩
    have kept := CommandKept.of_event hf ht
    exact ⟨t, hexec.trans ht, kept.pending, kept.inputs, fun _ _ _ _ => ⟨kept.clock, fun _ => kept.phase⟩⟩
  | true =>
    rcases ofResetControl_iff.mp hc with rfl | rfl | rfl | rfl | rfl
    · exact ⟨_, rfl, rfl, rfl, fun h => absurd rfl h⟩
    · exact ⟨_, rfl, rfl, rfl, fun _ h => absurd rfl h⟩
    · exact ⟨_, rfl, rfl, rfl, fun _ _ h => absurd rfl h⟩
    · obtain ⟨inputs, pending⟩ := takeResetRelease_frame (s.taken .resetRelease)
      exact ⟨_, rfl, pending, inputs, fun _ _ _ h => absurd rfl h⟩
    · obtain ⟨clock, inputs, pending⟩ := takeStartUpEnd_frame (s.taken .startUpIntervalEnd)
      exact ⟨_, rfl, pending, inputs, fun _ _ _ _ => ⟨clock, fun h => absurd rfl h⟩⟩

/-! ## The Link Port lawful -/

section
variable {s t : State}

theorem linkLawful_takeResetRelease (hs : s.link.lawful) : (takeResetRelease s).link.lawful := by
  unfold takeResetRelease
  split
  · exact reset_link_lawful
  · exact hs
  · exact hs

theorem linkLawful_takeStartUpEnd (hs : s.link.lawful) : (takeStartUpEnd s).link.lawful := by
  unfold takeStartUpEnd
  split
  · exact hs
  · split <;> exact hs
  · exact hs

theorem linkLawful_exec (c : Instr) (hs : s.link.lawful) (h : exec c s = .next t) : t.link.lawful := by
  cases hc : ofResetControl c with
  | false =>
    obtain ⟨f, hexec, hf⟩ := exec_event hc s
    exact (CommandKept.of_event hf (hexec.symm.trans h)).link hs
  | true =>
    rcases ofResetControl_iff.mp hc with rfl | rfl | rfl | rfl | rfl <;> cases h
    · exact reset_link_lawful
    · exact reset_link_lawful
    · exact reset_link_lawful
    · exact linkLawful_takeResetRelease (s := s.taken .resetRelease) hs
    · exact linkLawful_takeStartUpEnd (s := s.taken .startUpIntervalEnd) hs

/-- A millisecond moves nothing of the Link Port but the wait for RXD. -/
theorem linkLawful_tick (hs : s.link.lawful) : s.tick.link.lawful := by
  unfold State.tick
  split <;> exact hs

end

/-- Settles O11: the receiver's moves and the sender's each keep their side of the law, and no block's work touches
either. -/
theorem stepsKeepTheLinkLawful : Obligations.StepsKeepTheLinkLawful := fun _ _ =>
  step_keeps (P := fun s => s.link.lawful) (fun _ _ => id) (fun c _ _ => linkLawful_exec c) fun _ => linkLawful_tick

/-! ## Before operation (R183) -/

section
variable {s t : State}

/-- In operation the law says nothing. -/
theorem resetLawful_operating (h : s.phase = .operating) : s.resetLawful :=
  ⟨fun hn => absurd h hn, fun kind hk => by rw [h] at hk; cases hk⟩

/-- A full reset sets every block, and the Case Clock to 0. -/
theorem resetLawful_fullReset (phase : Phase) (cause : ResetCause) (inputs : Inputs) (drawn : Nat)
    (pending : List Instr) : (State.fullReset phase cause inputs drawn pending).resetLawful :=
  ⟨fun _ => ⟨rfl, rfl, rfl, rfl, rfl, rfl, rfl, rfl⟩, fun _ _ => rfl⟩

theorem resetLawful_takeResetRelease (hs : s.resetLawful) : (takeResetRelease s).resetLawful := by
  unfold takeResetRelease
  split
  · exact resetLawful_fullReset ..
  · exact hs
  · exact hs

theorem resetLawful_takeStartUpEnd (hs : s.resetLawful) : (takeStartUpEnd s).resetLawful := by
  unfold takeStartUpEnd
  split
  · exact hs
  · split
    · exact resetLawful_operating rfl
    · exact hs
  · exact hs

/-- An event has no effect before operation, and in operation the part stays there. -/
theorem resetLawful_event {c : Instr} {f : State → State} (hf : ∀ u, CommandKept u (f u)) (hs : s.resetLawful)
    (h : s.event c f = .next t) : t.resetLawful := by
  rcases event_next h with ⟨hp, rfl⟩ | ⟨-, rfl⟩
  · exact resetLawful_operating ((hf _).phase.trans hp)
  · exact hs

theorem resetLawful_exec (c : Instr) (hs : s.resetLawful) (h : exec c s = .next t) : t.resetLawful := by
  cases hc : ofResetControl c with
  | false =>
    obtain ⟨f, hexec, hf⟩ := exec_event hc s
    exact resetLawful_event hf hs (hexec.symm.trans h)
  | true =>
    rcases ofResetControl_iff.mp hc with rfl | rfl | rfl | rfl | rfl <;> cases h
    · exact resetLawful_fullReset ..
    · exact resetLawful_fullReset ..
    · exact resetLawful_fullReset ..
    · exact resetLawful_takeResetRelease (s := s.taken .resetRelease) hs
    · exact resetLawful_takeStartUpEnd (s := s.taken .startUpIntervalEnd) hs

/-- Held in reset a millisecond changes nothing; in the start-up interval the Case Clock alone runs. -/
theorem resetLawful_tick (hs : s.resetLawful) : s.tick.resetLawful := by
  unfold State.tick
  split
  next => exact hs
  next hp => exact ⟨fun _ => hs.1 (by simp [hp]), fun kind hk => by cases hp.symm.trans hk⟩
  next hp => exact resetLawful_operating hp

end

/-- Settles O15: full resets set the values, events before operation leave them, and the end of the start-up interval
begins operation. -/
theorem stepsKeepResetValuesBeforeOperation : Obligations.StepsKeepResetValuesBeforeOperation := fun _ _ =>
  step_keeps (fun _ _ => id) (fun c _ _ => resetLawful_exec c) fun _ => resetLawful_tick

end Sys2Proof.Machine
end

section
/-! SUPPORT. Requests and their bytes: reading what was written (R174, R185, R189, R192 to R196), and a request's frame
received character by character (R168 to R172). -/

namespace Sys2Proof

/-! ## Decode and encode -/

/-- `j` reads a payload as a request of KIND `kind` only when it is that request's own payload. -/
def ReadsOwnPayload (kind : Byte) (payload : List Byte) (j : Judged) : Prop :=
  ∀ r, j = .request r → kind = r.kind ∧ payload = r.payload

section
variable (p : List Byte)

theorem judgeEmpty_own {q : Request} (h : q.payload = []) : ReadsOwnPayload q.kind p (judgeEmpty q p) := by
  unfold judgeEmpty
  split <;> rintro _ ⟨⟩
  exact ⟨rfl, h.symm⟩

theorem judgeBaySetup_own : ReadsOwnPayload 0x10 p (judgeBaySetup p) := by
  unfold judgeBaySetup
  split <;> rintro _ ⟨⟩
  exact ⟨rfl, by simp [Request.payload, RawDescriptor.bytes, le16_half]⟩

theorem judgeBayAim_own : ReadsOwnPayload 0x11 p (judgeBayAim p) := by
  unfold judgeBayAim
  split <;> rintro _ ⟨⟩
  exact ⟨rfl, by simp [Request.payload, le16_half]⟩

theorem judgeBayClear_own : ReadsOwnPayload 0x12 p (judgeBayClear p) := by
  unfold judgeBayClear
  split <;> rintro _ ⟨⟩
  exact ⟨rfl, by simp [Request.payload, le16_half]⟩

theorem judgeBayQuery_own : ReadsOwnPayload 0x13 p (judgeBayQuery p) := by
  unfold judgeBayQuery
  split <;> rintro _ ⟨⟩
  exact ⟨rfl, rfl⟩

theorem judgeBayDescribe_own : ReadsOwnPayload 0x14 p (judgeBayDescribe p) := by
  unfold judgeBayDescribe
  split <;> rintro _ ⟨⟩
  exact ⟨rfl, rfl⟩

theorem judgeMotionSetup_own : ReadsOwnPayload 0x20 p (judgeMotionSetup p) := by
  unfold judgeMotionSetup
  split <;> rintro _ ⟨⟩
  exact ⟨rfl, by simp [Request.payload, RawMotion.bytes, le16_half]⟩

theorem judgeTrace_own : ReadsOwnPayload 0x22 p (judgeTrace p) := by
  unfold judgeTrace
  split <;> rintro _ ⟨⟩
  exact ⟨rfl, rfl⟩

theorem judgeEpisodes_own : ReadsOwnPayload 0x23 p (judgeEpisodes p) := by
  unfold judgeEpisodes
  split <;> rintro _ ⟨⟩
  exact ⟨rfl, rfl⟩

theorem judgePowerSetup_own : ReadsOwnPayload 0x30 p (judgePowerSetup p) := by
  unfold judgePowerSetup
  split <;> rintro _ ⟨⟩
  exact ⟨rfl, rfl⟩

theorem judgeCaseSetup_own : ReadsOwnPayload 0x40 p (judgeCaseSetup p) := by
  unfold judgeCaseSetup
  split <;> rintro _ ⟨⟩
  exact ⟨rfl, rfl⟩

theorem judgeNoticeMask_own : ReadsOwnPayload 0x50 p (judgeNoticeMask p) := by
  unfold judgeNoticeMask
  split <;> rintro _ ⟨⟩
  exact ⟨rfl, by simp [Request.payload, le16_half]⟩

/-- A payload read as a request is that request's own: by the KIND, the reading of its payload. -/
theorem judge_own (kind : Byte) : ReadsOwnPayload kind p (judge kind p) := by
  have of_toNat {k : Byte} {j : Judged} (hj : ReadsOwnPayload k p j) (h : kind.toNat = k.toNat) :
      ReadsOwnPayload kind p j := BitVec.eq_of_toNat_eq h ▸ hj
  unfold judge
  split
  next h => exact of_toNat (judgeEmpty_own (q := .ident) p rfl) h
  next h => exact of_toNat (judgeEmpty_own (q := .restart) p rfl) h
  next h => exact of_toNat (judgeBaySetup_own p) h
  next h => exact of_toNat (judgeBayAim_own p) h
  next h => exact of_toNat (judgeBayClear_own p) h
  next h => exact of_toNat (judgeBayQuery_own p) h
  next h => exact of_toNat (judgeBayDescribe_own p) h
  next h => exact of_toNat (judgeMotionSetup_own p) h
  next h => exact of_toNat (judgeEmpty_own (q := .motionQuery) p rfl) h
  next h => exact of_toNat (judgeTrace_own p) h
  next h => exact of_toNat (judgeEpisodes_own p) h
  next h => exact of_toNat (judgePowerSetup_own p) h
  next h => exact of_toNat (judgeEmpty_own (q := .powerQuery) p rfl) h
  next h => exact of_toNat (judgeCaseSetup_own p) h
  next h => exact of_toNat (judgeEmpty_own (q := .caseQuery) p rfl) h
  next h => exact of_toNat (judgeNoticeMask_own p) h
  next h => exact of_toNat (judgeEmpty_own (q := .noticeFetch) p rfl) h
  next h => exact of_toNat (judgeEmpty_own (q := .noticeStatus) p rfl) h
  next h => exact of_toNat (judgeEmpty_own (q := .faultRead) p rfl) h
  next => rintro _ ⟨⟩

end

/-- A request's own KIND and payload are read as that request; its two-byte fields come back by `half_le16`. -/
theorem judge_kind_payload (r : Request) : judge r.kind r.payload = .request r := by
  cases r with
  | baySetup bay d =>
    change judgeBaySetup (bay :: d.bytes) = _
    simp [RawDescriptor.bytes, le16, judgeBaySetup]
  | bayAim bays target priority =>
    change judgeBayAim (le16 bays ++ [target, priority]) = _
    simp [le16, judgeBayAim]
  | bayClear bays =>
    change judgeBayClear (le16 bays) = _
    simp [le16, judgeBayClear]
  | motionSetup r =>
    change judgeMotionSetup r.bytes = _
    simp [RawMotion.bytes, le16, judgeMotionSetup]
  | noticeMask mask =>
    change judgeNoticeMask (le16 mask) = _
    simp [le16, judgeNoticeMask]
  | ident | restart | bayQuery | bayDescribe | motionQuery | trace | episodes | powerSetup | powerQuery | caseSetup
  | caseQuery | noticeFetch | noticeStatus | faultRead => rfl

/-- Settles O4: what is read as a request is that request's own bytes, and these are read as it. -/
theorem requestBytesAndRequestsAgree : Obligations.RequestBytesAndRequestsAgree := by
  intro kind payload r
  refine ⟨judge_own payload kind r, ?_⟩
  rintro ⟨rfl, rfl⟩
  exact judge_kind_payload r

theorem payload_length_le (r : Request) : r.payload.length ≤ 16 := by
  cases r <;> simp [Request.payload, RawDescriptor.bytes, RawMotion.bytes, RawPower.bytes, RawCase.bytes]

end Sys2Proof

namespace Sys2Proof.Machine

/-! ## A frame received -/

/-- A request command is the request at the Link Port (log entry 14). -/
theorem exec_command (r : Request) (s : State) : exec r.command s = s.event r.command (takeRequest r) := by
  cases r <;> rfl

/-- In operation, with no wait for RXD to be high and no character in flight. -/
structure State.Hears (s : State) : Prop where
  phase : s.phase = .operating
  awaitHigh : s.link.awaitHigh = false
  free : ∀ c, Instr.characterReception c true ∉ s.inFlight

section
variable {s : State}

/-- The moves of the receiver do not stop it from hearing. -/
theorem State.Hears.setLink (h : s.Hears) {l : Link} (hl : l.awaitHigh = false) : (s.setLink l).Hears :=
  ⟨h.phase, hl, h.free⟩

theorem receiveAll_cons (h : s.Hears) (c : Byte) (cs : List Byte) :
    receiveAll (c :: cs) s = receiveAll cs (s.receive c) := by
  have hexec : exec (.characterReception c true) s = .next (s.receive c) := by
    refine (event_operating h.phase _ _).trans ?_
    rw [taken_of_not_mem (h.free c), takeCharacter_good h.awaitHigh]
  simp only [receiveAll, hexec]

/-- A move of the receiver is undone by its return to HUNT. -/
theorem hunts_setReceiver (rx : Receiver) (gap : Timer) :
    (s.setLink { s.link with rx := rx, gap := gap }).hunts = s.hunts := rfl

/-- In BODY the bytes up to LEN and a CHECK that makes the sum 0 are a complete, correct frame (R172, R174). -/
theorem receiveAll_body {len check : Byte} : ∀ (bs got : List Byte) (sum : Byte) (s : State), s.Hears →
    s.link.rx = .body len got sum → got.length + bs.length = len.toNat → sum + byteSum bs + check = 0 →
    receiveAll (bs ++ [check]) s = s.hunts.itemMade (itemOf (kindOf (got ++ bs)) (got ++ bs).tail)
  | [], got, sum, s, hs, hrx, hlen, hsum => by
    have hfull : ¬ got.length < len.toNat := by simpa using Nat.le_of_eq hlen.symm
    have hzero : sum + check = 0 := by simpa [byteSum] using hsum
    rw [List.nil_append, receiveAll_cons hs, List.append_nil]
    simp only [receiveAll, State.receive, hrx, if_neg hfull, if_pos hzero]
  | b :: bs, got, sum, s, hs, hrx, hlen, hsum => by
    have hmore : got.length < len.toNat := by rw [List.length_cons] at hlen; omega
    have hreceive : s.receive b = s.setLink
        { s.link with rx := .body len (got ++ [b]) (sum + b), gap := .after s.clock Config.gapMs } := by
      simp only [State.receive, hrx, if_pos hmore]
    have rest := receiveAll_body bs (got ++ [b]) (sum + b) (s.receive b) (hreceive ▸ hs.setLink hs.awaitHigh)
      (by rw [hreceive]; rfl) (by simp only [List.length_append, List.length_cons, List.length_nil] at hlen ⊢; omega)
      (by rw [← hsum, byteSum, BitVec.add_assoc sum])
    rw [List.cons_append, receiveAll_cons hs, rest, hreceive, hunts_setReceiver, List.append_assoc]
    rfl

/-- The characters of a frame of 1 to 62 bytes received in HUNT: its item, made by a receiver in HUNT (R170 to R174). -/
theorem receiveAll_frame {kind : Byte} {payload : List Byte} (hs : s.Hears) (hrx : s.link.rx = .hunt)
    (hlen : payload.length < 62) :
    receiveAll (Sys2Proof.frame (kind :: payload)) s = s.hunts.itemMade (itemOf kind payload) := by
  let len := BitVec.ofNat 8 (payload.length + 1)
  have hlenNat : len.toNat = payload.length + 1 := by simp only [len, BitVec.toNat_ofNat]; omega
  have hrange : (decide (1 ≤ len.toNat) && decide (len.toNat ≤ 62)) = true := by simp [hlenNat]; omega
  have hsync : s.receive Config.sync = s.setLink { s.link with rx := .length, gap := .after s.clock Config.gapMs } := by
    simp [State.receive, hrx]
  let begun := s.setLink { s.link with rx := .body len [] len, gap := .after s.clock Config.gapMs }
  have hbegin : (s.receive Config.sync).receive len = begun := by
    rw [hsync]
    exact if_pos hrange
  have hbody := receiveAll_body (len := len) (check := -(len + byteSum (kind :: payload))) (kind :: payload) [] len
    begun (hs.setLink hs.awaitHigh) rfl (by simp [hlenNat]) (BitVec.add_right_neg _)
  calc receiveAll (Sys2Proof.frame (kind :: payload)) s
      = receiveAll (len :: (kind :: payload ++ [-(len + byteSum (kind :: payload))])) (s.receive Config.sync) :=
        receiveAll_cons hs _ _
    _ = receiveAll (kind :: payload ++ [-(len + byteSum (kind :: payload))]) begun := by
        rw [receiveAll_cons (hsync ▸ hs.setLink hs.awaitHigh), hbegin]
    _ = s.hunts.itemMade (itemOf kind payload) := hbody

/-- A receiver in HUNT with the gap timer idle has nothing to return to (R170). -/
theorem hunts_of_hunt (hrx : s.link.rx = .hunt) (hgap : s.link.gap = .idle) : s.hunts = s := by
  rw [State.hunts, ← hrx, ← hgap]
  rfl

end

/-- Settles O5: the frame's characters make the item of its KIND and payload, which are read as the request. -/
theorem receivedFrameIsTheRequest : Obligations.ReceivedFrameIsTheRequest := by
  intro r s hp hrx hgap hawait hfree hcommand
  have hitem : itemOf r.kind r.payload = .request r := by simp only [itemOf, judge_kind_payload]
  have hlen : r.payload.length < 62 := by have := payload_length_le r; omega
  have hreceived : receiveAll r.frame s = s.itemMade (.request r) := by
    rw [Request.frame, receiveAll_frame ⟨hp, hawait, hfree⟩ hrx hlen, hunts_of_hunt hrx hgap, hitem]
  rw [exec_command, event_operating hp, taken_of_not_mem hcommand, hreceived]
  rfl

end Sys2Proof.Machine
end

section
/-! SUPPORT. Items, the end of a reply with the warm restart, IDENT and RESTART (R175 to R178, R184, R186,
R187, R191). -/

namespace Sys2Proof.Machine

/-! ## Requests at the Link Port -/

section
variable {s : State}

/-- A request with the transmitter idle: its report, its work, its reply. -/
theorem command_answered (h : s.canAnswer) (r : Request) :
    exec r.command s = .next ((s.taken r.command).dispatch (.request r)) :=
  (exec_command r s).trans (request_answered h.1 h.2 _ r)

/-- A request while a reply is sent and the slot is empty waits (R176). -/
theorem command_held (hp : s.phase = .operating) (ht : s.link.tx ≠ .idle) (hh : s.link.held = none) (r : Request) :
    exec r.command s = .next ((s.taken r.command).setLink { s.link with held := some (.request r) }) := by
  rw [exec_command, event_operating hp]
  exact congrArg _ (itemMade_held (s := s.taken r.command) ht hh _)

/-- A request while a reply is sent and the slot is full is discarded, and the overrun indication is set (R177). -/
theorem command_discarded (hp : s.phase = .operating) (ht : s.link.tx ≠ .idle) (hh : s.link.held ≠ none)
    (r : Request) : exec r.command s = .next ((s.taken r.command).setLink { s.link with overrun := true }) := by
  rw [exec_command, event_operating hp]
  exact congrArg _ (itemMade_overrun (s := s.taken r.command) ht hh _)

end

/-- Settles O7, by the transmitter and the slot. -/
theorem itemsAreDispatchedHeldOrDiscarded : Obligations.ItemsAreDispatchedHeldOrDiscarded := by
  refine ⟨fun item s => ⟨fun hidle => ?_, fun ht hh => itemMade_held ht hh item,
    fun ht hh => itemMade_overrun ht (Option.isSome_iff_ne_none.mp hh) item⟩, fun r s hp ht =>
      ⟨fun hh => command_held hp ht hh r, fun hh => command_discarded hp ht (Option.isSome_iff_ne_none.mp hh) r⟩⟩
  rw [itemMade_idle hidle]
  refine ⟨?_, ?_, ?_⟩
  · rintro r rfl
    exact dispatch_request s r
  · rintro kind rfl
    rfl
  · rintro code detail rfl
    rfl

/-- Settles O58: what each of the two does at its dispatch. -/
theorem identAndRestartAreAnswered : Obligations.IdentAndRestartAreAnswered := by
  intro s ha
  refine ⟨?_, command_answered ha .restart⟩
  refine (command_answered ha .ident).trans ?_
  rw [dispatch_request]
  simp only [carryOut, workIdent, accepted_cause, accepted_clock]
  rfl

/-! ## The end of a reply (R175, R176, R187) -/

section
variable {s : State}

theorem takeEndOfReply_free {f : List Byte} (ht : s.link.tx = .sending f false) (hh : s.link.held = none) :
    takeEndOfReply s = s.setLink { s.link with tx := .idle } := by
  simp only [takeEndOfReply, ht, hh]

theorem takeEndOfReply_held {f : List Byte} {item : Item} (ht : s.link.tx = .sending f false)
    (hh : s.link.held = some item) :
    takeEndOfReply s = (s.setLink { s.link with tx := .idle, held := none }).dispatch item := by
  simp only [takeEndOfReply, ht, hh]

/-! ## The warm restart (R153, R184, R187, R206, R210) -/

/-- What a warm restart sets, supervision apart: receiver, transmitter, slot and indications, notices, fault record and
cause; the wait for RXD high stands (log entry 30). -/
def State.restarted (s : State) : State :=
  (((s.setLink
    { rx := .hunt, gap := .idle, awaitHigh := s.link.awaitHigh, tx := .idle, held := none, overrun := false,
      lapseSeen := false }).setNotices .reset).setFaults .reset).setCause .restart

theorem takeEndOfReply_restart {f : List Byte} (ht : s.link.tx = .sending f true) :
    takeEndOfReply s = s.restarted.restartSupervision := by
  simp only [takeEndOfReply, ht]
  rfl

/-- With period 0 supervision stays OFF (R153). -/
theorem restartSupervision_off (h : s.policy.period = 0) : s.restartSupervision = s := if_pos h

/-- ACTIVE supervision is reloaded (R153). -/
theorem restartSupervision_active {e : Clock} (h : s.policy.period ≠ 0) (hs : s.policy.supervision = .active e) :
    s.restartSupervision = s.setPolicy { s.policy with supervision := s.policy.reloaded s.clock } := by
  simp only [State.restartSupervision, if_neg h, hs]

/-- A lapse ends with a re-evaluation (R153). -/
theorem restartSupervision_lapsed (h : s.policy.period ≠ 0) (hs : s.policy.supervision = .lapsed) :
    s.restartSupervision = (s.setPolicy { s.policy with supervision := s.policy.reloaded s.clock }).reevaluate := by
  simp only [State.restartSupervision, if_neg h, hs]

end

/-- Settles O9, by the reply that ends and the slot; the warm restart by the state of supervision. -/
theorem endOfReplyFreesTheTransmitter : Obligations.EndOfReplyFreesTheTransmitter := by
  intro s hp s0
  have hexec : exec .endOfReply s = .next (takeEndOfReply s0) := event_operating hp _ _
  refine ⟨fun f ht hh => ?_, fun f item ht hh => ?_, fun f ht => ?_⟩
  · rw [hexec, takeEndOfReply_free (s := s0) ht hh]
    rfl
  · rw [hexec, takeEndOfReply_held (s := s0) ht hh]
    rfl
  · intro w reloaded
    have hrestart : exec .endOfReply s = .next w.restartSupervision :=
      hexec.trans (congrArg _ (takeEndOfReply_restart (s := s0) ht))
    refine ⟨fun h => ?_, fun e h hs => ?_, fun h hs => ?_⟩
    · rw [hrestart, restartSupervision_off (s := w) h]
    · rw [hrestart, restartSupervision_active (s := w) h hs]
      rfl
    · rw [hrestart, restartSupervision_lapsed (s := w) h hs]
      rfl

end Sys2Proof.Machine
end

section
/-! SUPPORT. The sizes of reply payloads (R179, R185, R195). -/

namespace Sys2Proof.Machine

/-! ## The sizes of records -/

section
variable (s : State)

@[simp] theorem rawMotion_bytes_length (r : RawMotion) : r.bytes.length = 13 := rfl
@[simp] theorem rawPower_bytes_length (r : RawPower) : r.bytes.length = 6 := rfl
@[simp] theorem rawCase_bytes_length (r : RawCase) : r.bytes.length = 4 := rfl
@[simp] theorem bayRecord_length (b : BayId) : (s.bayRecord b).length = 17 := rfl
@[simp] theorem motionRecord_length : s.motionRecord.length = 37 := by simp [State.motionRecord]
@[simp] theorem traceEntry_length (offset : Nat) (e : Sample) : (traceEntry offset e).length = 9 := rfl
@[simp] theorem episodeRecord_length (e : Episode) : (episodeRecord e).length = 14 := rfl
@[simp] theorem arbiterRecord_length : s.arbiterRecord.length = 29 := rfl
@[simp] theorem supplyRecord_length : s.supplyRecord.length = 13 := rfl
@[simp] theorem caseStatus_length : s.caseStatus.length = 11 := rfl
@[simp] theorem noticeBytes_length (e : Notice) : (noticeBytes e).length = 11 := rfl

@[simp] theorem queueRecord_length : s.queueRecord.length = s.arbiter.queue.length + 1 := by simp [State.queueRecord]

@[simp] theorem captureBytes_length (c : Capture) (more : Bool) : (captureBytes c more).length = 12 := by
  cases c <;> rfl

/-- As many records of one size. -/
theorem flatten_length {n : Nat} {l : List (List Byte)} (h : ∀ x ∈ l, x.length = n) :
    l.flatten.length = n * l.length := by
  rw [List.length_flatten, List.map_congr_left h, List.map_const', List.sum_replicate, smul_eq_mul, Nat.mul_comm]

/-- TRACE returns entries only with the ring not empty, and then one for each offset (R107). -/
theorem traceEntries_length (ring : List Sample) (back count stride : Byte) :
    let f := traceFields ring.length back count stride
    (((traceOffsets ring.length f.1 f.2.1 f.2.2).map (traceAt ring)).flatten).length = 9 * f.2.1 := by
  intro f
  have hcount : f.2.1 ≤ ring.length := Nat.min_le_right ..
  have hentry : ∀ x ∈ (traceOffsets ring.length f.1 f.2.1 f.2.2).map (traceAt ring), x.length = 9 := by
    intro x hx
    obtain ⟨offset, hoffset, rfl⟩ := List.mem_map.mp hx
    obtain ⟨i, hi, rfl⟩ := List.mem_map.mp hoffset
    have hring : 0 < ring.length := by have := List.mem_range.mp hi; omega
    obtain ⟨e, -, hat⟩ := traceAt_some (Nat.mod_lt (f.1 + i * f.2.2) hring)
    rw [hat, traceEntry_length]
  rw [flatten_length hentry]
  simp [traceOffsets]

/-- EPISODES returns the records that its fields in range name (R126). -/
theorem episodeRecords_length (l : List Episode) (first count : Byte) :
    let f := episodeFields l.length first count
    ((((l.drop f.1).take f.2).map episodeRecord).flatten).length = 14 * f.2 := by
  intro f
  have hcount : f.2 ≤ l.length - f.1 := Nat.min_le_right ..
  have hrecord : ∀ x ∈ ((l.drop f.1).take f.2).map episodeRecord, x.length = 14 := by
    intro x hx
    obtain ⟨e, -, rfl⟩ := List.mem_map.mp hx
    exact episodeRecord_length e
  rw [flatten_length hrecord, List.length_map, List.length_take, List.length_drop, Nat.min_eq_left hcount]

/-! ## The sizes of answers -/

/-- An OK answer has a payload of `n` bytes, any other none, and CLAMPED clear (R179, R181). -/
def Answer.Sized (a : Answer) (n : Nat) : Prop :=
  (a.result = .ok ∧ a.payload.length = n) ∨ (a.result ≠ .ok ∧ a.payload = [] ∧ a.clamped = false)

theorem okay_sized {payload : List Byte} {n : Nat} (h : payload.length = n) : (Answer.okay payload).Sized n :=
  .inl ⟨rfl, h⟩

theorem refuse_sized {r : Result} (h : r ≠ .ok) (n : Nat) : (Answer.refuse r).Sized n := .inr ⟨h, rfl, rfl⟩

/-- Every request is answered in its size, or refused. -/
theorem carryOut_sized (r : Request) : (carryOut r s).1.Sized (s.replySize r) := by
  cases r with
  | ident => exact okay_sized rfl
  | restart => exact okay_sized rfl
  | baySetup bay d =>
    simp only [carryOut, workBaySetup]
    split
    · exact refuse_sized (by decide) _
    · split
      · exact .inl ⟨rfl, rfl⟩
      · exact refuse_sized (by decide) _
  | bayAim bays target priority =>
    simp only [carryOut, workBayAim, State.replySize]
    split
    next => exact refuse_sized (by decide) _
    next bs hbs => exact .inl ⟨rfl, by simp [aimAll_length, hbs]⟩
  | bayClear bays =>
    simp only [carryOut, workBayClear, State.replySize]
    split
    next => exact refuse_sized (by decide) _
    next bs hbs => exact okay_sized (by simp [clearAll_length, hbs])
  | bayQuery bay =>
    simp only [carryOut, workBayQuery]
    split
    · exact refuse_sized (by decide) _
    · exact okay_sized (bayRecord_length ..)
  | bayDescribe bay =>
    simp only [carryOut, workBayDescribe]
    split
    · exact refuse_sized (by decide) _
    · exact okay_sized rfl
  | motionSetup r => exact .inl ⟨rfl, rawMotion_bytes_length _⟩
  | motionQuery => exact okay_sized (motionRecord_length s)
  | trace back count stride =>
    refine .inl ⟨rfl, ?_⟩
    simp only [carryOut, workTrace, State.replySize, List.length_append, traceEntries_length]
    rfl
  | episodes first count =>
    refine .inl ⟨rfl, ?_⟩
    simp only [carryOut, workEpisodes, State.replySize, List.length_append, episodeRecords_length]
    rfl
  | powerSetup r => exact .inl ⟨rfl, rawPower_bytes_length _⟩
  | powerQuery => exact okay_sized (by simp [State.replySize]; omega)
  | caseSetup r => exact .inl ⟨rfl, rawCase_bytes_length _⟩
  | caseQuery => exact okay_sized (caseStatus_length s)
  | noticeMask mask => exact okay_sized (le16_length _)
  | noticeFetch =>
    simp only [carryOut, workNoticeFetch, State.replySize, Notices.fetched]
    cases s.notices.queue with
    | nil => exact okay_sized rfl
    | cons e rest => exact okay_sized (noticeBytes_length e)
  | noticeStatus => exact okay_sized rfl
  | faultRead =>
    simp only [carryOut, workFaultRead]
    split
    · exact okay_sized rfl
    · exact okay_sized (captureBytes_length ..)

theorem baysOf_length_le (bays : Half) : ((baysOf bays).getD []).length ≤ 12 := by
  unfold baysOf
  split
  · exact List.length_filter_le (fun b : BayId => bays.getLsbD b.val) bayIds
  · exact Nat.zero_le _

/-- With at most twelve bays in the queue no reply payload is above 59 bytes: six TRACE entries make the longest
(R179, R195). -/
theorem replySize_le (hq : s.arbiter.queue.length ≤ 12) (r : Request) : s.replySize r ≤ 59 := by
  cases r with
  | bayAim bays | bayClear bays => have := baysOf_length_le bays; simp only [State.replySize]; omega
  | trace back count stride =>
    have hcount : clamp 1 6 count.toNat ≤ 6 := clamp_le (by decide)
    simp only [State.replySize, traceFields]
    omega
  | episodes first count =>
    have hcount : clamp 1 4 count.toNat ≤ 4 := clamp_le (by decide)
    simp only [State.replySize, episodeFields]
    omega
  | powerQuery => simp only [State.replySize]; omega
  | noticeFetch => simp only [State.replySize]; split <;> decide
  | ident | restart | baySetup | bayQuery | bayDescribe | motionSetup | motionQuery | powerSetup | caseSetup | caseQuery
  | noticeMask | noticeStatus | faultRead => simp [State.replySize]

end

/-- Settles O10: an answer is OK in the size of its kind, or refused. -/
theorem replyPayloadsHaveTheirSizes : Obligations.ReplyPayloadsHaveTheirSizes := by
  intro r s
  rcases carryOut_sized s r with ⟨hok, hsize⟩ | ⟨hresult, hpayload, hclamped⟩
  · exact ⟨fun _ => hsize, fun h => absurd hok h, fun hq => hsize ▸ replySize_le s hq r⟩
  · exact ⟨fun h => absurd h hresult, fun _ => ⟨hpayload, hclamped⟩, fun _ => hpayload ▸ Nat.zero_le _⟩

end Sys2Proof.Machine
end

section
/-! SUPPORT. NOTICE_FETCH, NOTICE_MASK, NOTICE_STATUS and FAULT_READ, and a capture before a warm restart (R196 to
R210). -/

namespace Sys2Proof.Machine

/-- A request is answered as its owning block carries it out. -/
theorem command_answered_with {s t : State} (h : s.canAnswer) {r : Request} {a : Answer}
    (hw : carryOut r (s.taken r.command).acceptedRequest = (a, t)) :
    exec r.command s =
      .next (t.sendReply (r.kind + 0x80) a.result a.clamped a.payload (decide (r = .restart))) := by
  rw [command_answered h, dispatch_request, hw]

/-- A flag as a byte of 0 or 1. -/
theorem packed_flag (v : Bool) : packed v.toNat = if v = true then 1 else 0 := by cases v <;> rfl

/-! ## The queue's requests (R200 to R204) -/

section
variable {s : State} {n : Notices}

theorem fetched_empty (h : n.queue = []) : n.fetched = (none, n) := by simp only [Notices.fetched, h]

theorem fetched_head {e : Notice} {rest : List Notice} (h : n.queue = e :: rest) :
    n.fetched = (some e, { n with queue := rest : Notices }.filled) := by simp only [Notices.fetched, h]

theorem workNoticeFetch_empty (h : s.notices.queue = []) : workNoticeFetch s = (.okay [], s) := by
  simp only [workNoticeFetch, fetched_empty h]

theorem workNoticeFetch_head {e : Notice} {rest : List Notice} (h : s.notices.queue = e :: rest) :
    workNoticeFetch s = (.okay (noticeBytes e), s.setNotices { s.notices with queue := rest : Notices }.filled) := by
  simp only [workNoticeFetch, fetched_head h]

/-- The entry with its urgency as a byte of 0 or 1 (R196). -/
theorem noticeBytes_eq (e : Notice) :
    noticeBytes e =
      [BitVec.ofNat 8 e.key.number, if e.key.urgent = true then 1 else 0, BitVec.ofNat 8 e.count] ++ le32 e.time ++
        [e.payload.b0, e.payload.b1, e.payload.b2, e.payload.b3] := by
  rw [noticeBytes, packed_flag]

/-- A kind becomes unmasked when its bit was set and is clear in the new mask (R204). -/
theorem unmasks_iff {old : BitVec 11} {mask : Half} :
    old &&& ~~~(mask.extractLsb' 0 11) ≠ 0 ↔ ∃ kind, old.getLsbD kind = true ∧ mask.getLsbD kind = false := by
  have hbit (kind : Nat) : (old &&& ~~~(mask.extractLsb' 0 11)).getLsbD kind = true ↔
      old.getLsbD kind = true ∧ mask.getLsbD kind = false := by
    by_cases hk : kind < 11
    · simp [hk]
    · simp [BitVec.getLsbD_of_ge _ kind (Nat.le_of_not_lt hk)]
  simp only [← hbit]
  constructor
  · intro hne
    by_contra hnone
    refine hne (BitVec.eq_of_getLsbD_eq fun i _ => ?_)
    simpa using fun hi => hnone ⟨i, hi⟩
  · rintro ⟨kind, hkind⟩ h0
    simp [h0] at hkind

theorem remasked_fills {mask : Half} (h : ∃ kind, n.mask.getLsbD kind = true ∧ mask.getLsbD kind = false) :
    n.remasked mask = { n with mask := mask.setWidth 11 : Notices }.filled := by
  rw [BitVec.setWidth_eq_extractLsb' (by decide)]
  exact if_neg (unmasks_iff.mpr h)

theorem remasked_keeps {mask : Half} (h : ¬ ∃ kind, n.mask.getLsbD kind = true ∧ mask.getLsbD kind = false) :
    n.remasked mask = { n with mask := mask.setWidth 11 } := by
  rw [BitVec.setWidth_eq_extractLsb' (by decide)]
  exact if_pos (not_not.mp (mt unmasks_iff.mp h))

@[simp] theorem remasked_mask (n : Notices) (mask : Half) : (n.remasked mask).mask = mask.setWidth 11 := by
  by_cases h : ∃ kind, n.mask.getLsbD kind = true ∧ mask.getLsbD kind = false
  · rw [remasked_fills h, filled_mask]
  · rw [remasked_keeps h]

/-- Bits 11 to 15 of a mask are echoed as 0 (R204). -/
theorem mask_echo (mask : Half) : (mask.setWidth 11).setWidth 16 = mask &&& 0x07FF := by
  refine BitVec.eq_of_toNat_eq ?_
  have hand : mask.toNat &&& 2047 = mask.toNat % 2048 := Nat.and_two_pow_sub_one_eq_mod mask.toNat 11
  simp only [BitVec.toNat_setWidth, BitVec.toNat_and, BitVec.reduceToNat, hand]
  omega

theorem workNoticeMask_eq (s : State) (mask : Half) :
    workNoticeMask mask s = (.okay (le16 (mask &&& 0x07FF)), s.setNotices (s.notices.remasked mask)) := by
  simp only [workNoticeMask, setNotices_notices, remasked_mask, mask_echo]

/-! ## The pending keys as bits (R203) -/

theorem number_lt (k : Key) : k.number < 22 := by
  cases k with
  | bay b => exact Nat.lt_trans b.isLt (by decide)
  | _ => decide

/-- A pending key sets its bit and leaves those set before it. -/
theorem pendingSet_from (i : Nat) (hi : i < 32) : ∀ (l : List Notice) (acc : Clock),
    (l.foldl (fun acc e => acc ||| BitVec.ofNat 32 (2 ^ e.key.number)) acc).getLsbD i = true ↔
      acc.getLsbD i = true ∨ ∃ e ∈ l, e.key.number = i
  | [], acc => by simp
  | e :: l, acc => by
    rw [List.foldl_cons, pendingSet_from i hi l, BitVec.getLsbD_or, BitVec.getLsbD_ofNat, Nat.testBit_two_pow]
    simp [hi, or_assoc]

theorem pendingSet_bit (l : List Notice) {i : Nat} (hi : i < 32) :
    (pendingSet l).getLsbD i = true ↔ ∃ e ∈ l, e.key.number = i := by
  rw [pendingSet, pendingSet_from i hi]
  simp

theorem pendingSet_key (l : List Notice) (k : Key) :
    (pendingSet l).getLsbD k.number = true ↔ ∃ e ∈ l, e.key = k := by
  rw [pendingSet_bit l (Nat.lt_trans (number_lt k) (by decide))]
  exact exists_congr fun e => and_congr_right fun _ => ⟨number_injective, congrArg Key.number⟩

theorem pendingSet_lt (l : List Notice) : (pendingSet l).toNat < 2 ^ 22 := by
  refine Nat.lt_pow_two_of_testBit _ fun i hi => ?_
  rw [BitVec.testBit_toNat]
  by_cases h32 : i < 32
  · refine Bool.eq_false_iff.mpr fun hbit => ?_
    obtain ⟨e, -, he⟩ := (pendingSet_bit l h32).mp hbit
    have := number_lt e.key
    omega
  · exact BitVec.getLsbD_of_ge _ i (Nat.le_of_not_lt h32)

end

/-- Settles O55: the filling by `filled_over` and `filled_step`, the three requests by their blocks' work. -/
theorem fetchesAndMasksFillFromPending : Obligations.FetchesAndMasksFillFromPending := by
  refine ⟨fun k => by cases k <;> rfl, fun n hsorted => ⟨fun h => filled_over h, fun e hl he => ?_⟩, fun s ha => ?_⟩
  · have step := filled_step hl ((nextEntering_some hsorted).mpr he)
    refine ⟨fun hu front back hq hf hb => ?_, fun hu => ?_⟩
    · rw [step, hq, placeEntry_urgent hu hf hb]
    · rw [step, placeEntry_routine hu]
  · intro n fetch status
    have hfetch : fetch.notices = n := accepted_notices _
    have hstatus : status.notices = n := accepted_notices _
    refine ⟨fun hq => ?_, fun e rest hq => ?_, ⟨pendingSet n.pending, ?_, pendingSet_key _, pendingSet_lt _⟩,
      fun mask => ?_⟩
    · exact (command_answered_with ha (r := .noticeFetch) (workNoticeFetch_empty (s := fetch) (hfetch ▸ hq))).trans rfl
    · rw [← noticeBytes_eq, ← hfetch]
      exact (command_answered_with ha (r := .noticeFetch) (workNoticeFetch_head (s := fetch) (hfetch ▸ hq))).trans rfl
    · rw [← hstatus]
      exact (command_answered_with ha (r := .noticeStatus) (a := (workNoticeStatus status).1) rfl).trans rfl
    · intro masking stored unmasks done
      have hmasking : masking.notices = n := accepted_notices _
      have hdone : done (n.remasked mask) := by
        have hwork := workNoticeMask_eq masking mask
        rw [hmasking] at hwork
        exact (command_answered_with ha (r := .noticeMask mask) hwork).trans rfl
      refine ⟨fun h => ?_, fun h => ?_⟩
      · rw [remasked_fills h] at hdone
        exact hdone
      · rw [remasked_keeps h] at hdone
        exact hdone

/-! ## The fault record (R207 to R210) -/

section
variable {s : State}

@[simp] theorem takeCapture_link (c : Capture) (s : State) : (takeCapture c s).link = s.link := by
  unfold takeCapture
  split <;> rfl

@[simp] theorem takeCapture_inFlight (c : Capture) (s : State) : (takeCapture c s).inFlight = s.inFlight := by
  unfold takeCapture
  split <;> rfl

theorem workFaultRead_empty (h : s.faults.record = none) : workFaultRead s = (.okay (List.replicate 12 0), s) := by
  simp only [workFaultRead, h]

theorem workFaultRead_held {c : Capture} (h : s.faults.record = some c) :
    workFaultRead s = (.okay (captureBytes c s.faults.more), s.setFaults { record := none, more := false }) := by
  simp only [workFaultRead, h]

/-- A re-evaluation posts no notice. -/
theorem post_not_handed (p q : Policy) (k : Key) (time : Clock) (x : NoticePayload) :
    .noticePost k time x ∉ policyHandoffs p q := by
  simp only [policyHandoffs, List.mem_append, List.mem_map]
  split_ifs <;> simp

theorem post_of_reevaluate {k : Key} {time : Clock} {x : NoticePayload}
    (h : .noticePost k time x ∈ s.reevaluate.inFlight) : .noticePost k time x ∈ s.inFlight :=
  (List.mem_append.mp h).resolve_right (post_not_handed _ _ k time x)

theorem post_of_restartSupervision {k : Key} {time : Clock} {x : NoticePayload}
    (h : .noticePost k time x ∈ s.restartSupervision.inFlight) : .noticePost k time x ∈ s.inFlight := by
  simp only [State.restartSupervision] at h
  split at h
  · exact h
  · split at h
    · exact h
    all_goals exact (post_of_reevaluate h :)

/-- A warm restart leaves record, queue and pending notices empty, and brings no notice into flight (R206, R210). -/
theorem restarted_records (s : State) :
    let v := s.restarted.restartSupervision
    v.faults = .reset ∧ v.notices = .reset ∧
      ∀ k time x, .noticePost k time x ∈ v.inFlight → .noticePost k time x ∈ s.inFlight := by
  obtain ⟨p, l, h⟩ := PolicyWork.restartSupervision s.restarted
  refine ⟨?_, ?_, fun k time x hm => post_of_restartSupervision (s := s.restarted) hm⟩ <;> rw [h] <;> rfl

end

/-- Settles O56: a capture by the record it finds, its warm restart by `restarted_records`, and FAULT_READ by the record
it reads. -/
theorem capturesAreHeldUntilRead : Obligations.CapturesAreHeldUntilRead := by
  intro s f reason source fields
  have hreason (c : Capture) : c.reasonCode = reason c := by cases c <;> rfl
  have hsource (c : Capture) : c.sourceCode = source c := by cases c <;> rfl
  refine ⟨fun hp c => ?_, fun ha => ?_⟩
  · intro t
    have hexec : exec (.faultCapture c) s = .next (takeCapture c t) := event_operating hp _ _
    refine ⟨fun hnone => ⟨_, event_operating (s := t) hp _ _, ?_⟩, fun hheld => ?_, fun sent u ht hu => ?_⟩
    · rw [hexec, takeCapture_stored (s := t) hnone, hreason, hsource]
      rfl
    · rw [hexec, takeCapture_frozen (s := t) hheld]
      rfl
    · obtain rfl : takeCapture c t = u := by
        rw [hexec] at hu
        cases hu
        rfl
      let u := (takeCapture c t).taken .endOfReply
      have hphase : (takeCapture c t).phase = .operating := (CommandKept.takeCapture t c).phase.trans hp
      have htx : u.link.tx = .sending sent true := (congrArg Link.tx (takeCapture_link c t)).trans ht
      obtain ⟨hfaults, hnotices, hposts⟩ := restarted_records u
      refine ⟨u.restarted.restartSupervision, ?_, by rw [hfaults]; rfl, by rw [hfaults]; rfl, by rw [hnotices]; rfl,
        by rw [hnotices]; rfl, fun time p hm => ?_⟩
      · exact (event_operating hphase _ _).trans (congrArg _ (takeEndOfReply_restart htx))
      · have hflight : u.inFlight = (s.inFlight.erase (.faultCapture c)).erase .endOfReply :=
          congrArg (List.erase · _) (takeCapture_inFlight c t)
        exact List.mem_of_mem_erase (List.mem_of_mem_erase (hflight ▸ hposts _ _ _ hm))
  · intro t
    have hfaults : t.faults = f := accepted_faults _
    refine ⟨fun hnone => ?_, fun c hc => ?_⟩
    · exact (command_answered_with ha (r := .faultRead) (workFaultRead_empty (s := t) (hfaults ▸ hnone))).trans rfl
    · have hbytes : captureBytes c t.faults.more =
          [1, if f.more = true then 1 else 0, reason c, source c] ++ fields c := by
        rw [hfaults]
        cases c <;> simp only [captureBytes, packed_flag] <;> rfl
      rw [← hbytes]
      exact (command_answered_with ha (r := .faultRead) (workFaultRead_held (s := t) (hfaults ▸ hc))).trans rfl

end Sys2Proof.Machine
end

section
/-! SUPPORT. NOTICE_POST on the part, by the cases of R199. -/

namespace Sys2Proof.Machine

/-- Pending records, in ascending key number, hold each key once. -/
theorem pending_keys_nodup {l : List Notice} (h : l.Pairwise fun a b => a.key.number < b.key.number) :
    (l.map (·.key)).Nodup :=
  List.pairwise_map.mpr (h.imp fun hlt heq => Nat.ne_of_lt hlt (congrArg Key.number heq))

theorem exec_noticePost_operating {s : State} (hp : s.phase = .operating) (k : Key) (time : Clock) (p : NoticePayload) :
    exec (.noticePost k time p) s =
      .next ((s.taken (.noticePost k time p)).setNotices (s.notices.posted k time p)) :=
  event_operating hp _ _

section
variable {n : Notices} {k : Key} {e : Notice} {front back : List Notice} (time : Clock) (p : NoticePayload)

/-- The first case of R199: the queued entry keeps its place. -/
theorem posted_queued_at (h : n.lawful) (hq : n.queue = front ++ e :: back) (hk : e.key = k) :
    n.posted k time p = { n with queue := front ++ e.again time p :: back } := by
  obtain ⟨placed, -⟩ := noticesLawful_iff.mp h
  have hqueued : n.queued k = true := queued_iff.mpr ⟨e, by simp [hq], hk⟩
  rw [posted_queued hqueued, hq, coalesce_at time p hk (hq ▸ placed.once)]

/-- The second case of R199: the pending record keeps its place. -/
theorem posted_pending_at (h : n.lawful) (hq : n.pending = front ++ e :: back) (hk : e.key = k) :
    n.posted k time p = { n with pending := front ++ e.again time p :: back } := by
  obtain ⟨placed, -⟩ := noticesLawful_iff.mp h
  have hmem : e ∈ n.pending := by simp [hq]
  have hqueued : n.queued k = false := queued_eq_false.mpr fun x hx hxk => placed.apart x hx e hmem (hxk.trans hk.symm)
  rw [posted_pending hqueued (isPending_iff.mpr ⟨e, hmem, hk⟩), hq,
    coalesce_at time p hk (hq ▸ pending_keys_nodup placed.sorted)]

end

/-- Settles O54: each case of R199 by the law of the queue and the place that the post takes. -/
theorem postsQueueCoalesceOrWait : Obligations.PostsQueueCoalesceOrWait := by
  intro k time p s hp hlawful n run done again fresh clear placed
  have done_of {after : Notices} (h : n.posted k time p = after) : done after :=
    h ▸ exec_noticePost_operating hp k time p
  refine ⟨fun front e back hq hk => done_of (posted_queued_at time p hlawful hq hk),
    fun front e back hq hk => done_of (posted_pending_at time p hlawful hq hk), ?_, ?_, ?_⟩
  · rintro ⟨hqueue, hpending⟩ ⟨hunmasked, hfree⟩ hu front back hq hfront hback
    refine done_of ?_
    rw [posted_placed (queued_eq_false.mpr hqueue) (isPending_eq_false.mpr hpending) hunmasked hfree, hq,
      placeEntry_urgent hu hfront hback]
  · rintro ⟨hqueue, hpending⟩ ⟨hunmasked, hfree⟩ hu
    refine done_of ?_
    rw [posted_placed (queued_eq_false.mpr hqueue) (isPending_eq_false.mpr hpending) hunmasked hfree,
      placeEntry_routine hu]
  · rintro ⟨hqueue, hpending⟩ hblocked front back hq hfront hback
    have hwait : n.masked k = true ∨ 8 ≤ n.queue.length := by
      simpa [placed, Notices.masked, or_iff_not_imp_left] using hblocked
    refine done_of ?_
    rw [posted_waits (queued_eq_false.mpr hqueue) (isPending_eq_false.mpr hpending) hwait, hq,
      insertPending_between hfront hback]

end Sys2Proof.Machine
end

section
/-! SUPPORT. A step with a command waiting. -/

namespace Sys2Proof.Machine

/-- Settles O1: the first arm of `step`; putting the rest into the queue again forgets the command that was before it. -/
theorem stepRunsTheFrontCommand : Obligations.StepRunsTheFrontCommand :=
  fun _ _ _ => rfl

end Sys2Proof.Machine
end
